-- ==== Sys2Proof/Word.lean ====
section
/-! DEFINITION. The word types of the block (00_scope.md R5, R6; 30_encoding.md R110). -/

namespace Sys2Proof

/-- A host register value, a turn value or a buffer word: 32 bits (R5). -/
abbrev Word := BitVec 32

/-- One byte of the buffer memory (20_memory.md R81). -/
abbrev Byte := BitVec 8

/-- A byte address of the host bus space: 19 bits (20_memory.md R80). -/
abbrev BusAddr := BitVec 19

/-- A transaction word: 54 bits (30_encoding.md R110). -/
abbrev TransWord := BitVec 54

end Sys2Proof
end

