-- ==== Sys2Proof/Syntax.lean ====
section
/-! DEFINITION. The operations of the host bus: one constructor for each row of
spec/opcode_table.json. An operand stands here only where the operation uses it:
WDATA of a read, of a write to a read-only register and of a rejected access is
ignored (30_encoding.md R110, 45_bus_access.md R439 to R441; log 17). -/

namespace Sys2Proof

/-- One host bus operation (30_encoding.md R112). -/
inductive Instr where
  /-- RD_ID: read of register ID (R391). -/
  | rdId
  /-- RD_STATUS: read of register STATUS (R392). -/
  | rdStatus
  /-- RD_ERR: read of register ERR (R393). -/
  | rdErr
  /-- RD_CMD: read of register CMD (R394). -/
  | rdCmd
  /-- RD_TXEN: read of register TXEN (R395). -/
  | rdTxen
  /-- RD_INTEN: read of register INTEN (R396). -/
  | rdInten
  /-- RD_INTSTAT: read of register INTSTAT (R397). -/
  | rdIntstat
  /-- RD_FREQ: read of register FREQ (R398). -/
  | rdFreq
  /-- RD_MODE: read of register MODE (R399). -/
  | rdMode
  /-- RD_AMP: read of register AMP (R400). -/
  | rdAmp
  /-- RD_DITHER: read of register DITHER (R401). -/
  | rdDither
  /-- RD_HD3AMP: read of register HD3AMP (R402). -/
  | rdHd3amp
  /-- RD_HD3PH: read of register HD3PH (R403). -/
  | rdHd3ph
  /-- RD_MAXW: read of register MAXW (R404). -/
  | rdMaxw
  /-- RD_SEED: read of register SEED (R405). -/
  | rdSeed
  /-- RD_NWORDS: read of register NWORDS (R406). -/
  | rdNwords
  /-- RD_NPERIODS: read of register NPERIODS (R407). -/
  | rdNperiods
  /-- RD_FEXACT: read of register FEXACT (R408). -/
  | rdFexact
  /-- RD_CLKDIV: read of register CLKDIV (R409). -/
  | rdClkdiv
  /-- RD_APPROX_ITER: read of register APPROX_ITER (R410). -/
  | rdApproxIter
  /-- RD_SOLV_TNUM: read of register SOLV_TNUM (R411). -/
  | rdSolvTnum
  /-- RD_SOLV_TDEN: read of register SOLV_TDEN (R412). -/
  | rdSolvTden
  /-- RD_SOLV_QMAX: read of register SOLV_QMAX (R413). -/
  | rdSolvQmax
  /-- RD_SOLV_P: read of register SOLV_P (R414). -/
  | rdSolvP
  /-- RD_SOLV_Q: read of register SOLV_Q (R415). -/
  | rdSolvQ
  /-- RD_SOLV_ITER: read of register SOLV_ITER (R416). -/
  | rdSolvIter
  /-- RD_PARAM_CAP: read of register PARAM_CAP (R417). -/
  | rdParamCap
  /-- RD_PARAM_CPU: read of register PARAM_CPU (R418). -/
  | rdParamCpu
  /-- WR_RO_ID: write to the read-only register ID (R439). -/
  | wrRoId
  /-- WR_RO_STATUS: write to the read-only register STATUS (R439). -/
  | wrRoStatus
  /-- WR_ERR: write of `wdata` to register ERR (R423). -/
  | wrErr (wdata : Word)
  /-- APPLY: command code 1 written to CMD (R342). -/
  | cmdApply
  /-- RESTORE_PINS: command code 2 written to CMD (R359). -/
  | cmdRestorePins
  /-- SOLVE: command code 3 written to CMD (R215). -/
  | cmdSolve
  /-- WR_TXEN: write of `wdata` to register TXEN (R424). -/
  | wrTxen (wdata : Word)
  /-- WR_INTEN: write of `wdata` to register INTEN (R425). -/
  | wrInten (wdata : Word)
  /-- WR_INTSTAT: write of `wdata` to register INTSTAT (R426). -/
  | wrIntstat (wdata : Word)
  /-- WR_FREQ: write of `wdata` to register FREQ (R427). -/
  | wrFreq (wdata : Word)
  /-- WR_MODE: write of `wdata` to register MODE (R428). -/
  | wrMode (wdata : Word)
  /-- WR_AMP: write of `wdata` to register AMP (R429). -/
  | wrAmp (wdata : Word)
  /-- WR_DITHER: write of `wdata` to register DITHER (R430). -/
  | wrDither (wdata : Word)
  /-- WR_HD3AMP: write of `wdata` to register HD3AMP (R431). -/
  | wrHd3amp (wdata : Word)
  /-- WR_HD3PH: write of `wdata` to register HD3PH (R432). -/
  | wrHd3ph (wdata : Word)
  /-- WR_MAXW: write of `wdata` to register MAXW (R433). -/
  | wrMaxw (wdata : Word)
  /-- WR_SEED: write of `wdata` to register SEED (R434). -/
  | wrSeed (wdata : Word)
  /-- WR_RO_NWORDS: write to the read-only register NWORDS (R439). -/
  | wrRoNwords
  /-- WR_RO_NPERIODS: write to the read-only register NPERIODS (R439). -/
  | wrRoNperiods
  /-- WR_RO_FEXACT: write to the read-only register FEXACT (R439). -/
  | wrRoFexact
  /-- WR_RO_CLKDIV: write to the read-only register CLKDIV (R439). -/
  | wrRoClkdiv
  /-- WR_RO_APPROX_ITER: write to the read-only register APPROX_ITER (R439). -/
  | wrRoApproxIter
  /-- WR_SOLV_TNUM: write of `wdata` to register SOLV_TNUM (R435). -/
  | wrSolvTnum (wdata : Word)
  /-- WR_SOLV_TDEN: write of `wdata` to register SOLV_TDEN (R436). -/
  | wrSolvTden (wdata : Word)
  /-- WR_SOLV_QMAX: write of `wdata` to register SOLV_QMAX (R437). -/
  | wrSolvQmax (wdata : Word)
  /-- WR_RO_SOLV_P: write to the read-only register SOLV_P (R439). -/
  | wrRoSolvP
  /-- WR_RO_SOLV_Q: write to the read-only register SOLV_Q (R439). -/
  | wrRoSolvQ
  /-- WR_RO_SOLV_ITER: write to the read-only register SOLV_ITER (R439). -/
  | wrRoSolvIter
  /-- WR_RO_PARAM_CAP: write to the read-only register PARAM_CAP (R439). -/
  | wrRoParamCap
  /-- WR_RO_PARAM_CPU: write to the read-only register PARAM_CPU (R439). -/
  | wrRoParamCpu
  /-- RD_BUF_SILENT: read of word `w` of buffer SILENT (R419). -/
  | rdBufSilent (w : BitVec 14)
  /-- RD_BUF_STEADY: read of word `w` of buffer STEADY (R420). -/
  | rdBufSteady (w : BitVec 14)
  /-- RD_BUF_RAMPUP: read of word `w` of buffer RAMPUP (R421). -/
  | rdBufRampup (w : BitVec 14)
  /-- RD_BUF_RAMPDOWN: read of word `w` of buffer RAMPDOWN (R422). -/
  | rdBufRampdown (w : BitVec 14)
  /-- WR_RO_BUF_SILENT: write to word `w` of the read-only buffer SILENT (R439). -/
  | wrRoBufSilent (w : BitVec 14)
  /-- WR_RO_BUF_STEADY: write to word `w` of the read-only buffer STEADY (R439). -/
  | wrRoBufSteady (w : BitVec 14)
  /-- WR_RO_BUF_RAMPUP: write to word `w` of the read-only buffer RAMPUP (R439). -/
  | wrRoBufRampup (w : BitVec 14)
  /-- WR_RO_BUF_RAMPDOWN: write to word `w` of the read-only buffer RAMPDOWN (R439). -/
  | wrRoBufRampdown (w : BitVec 14)
  /-- CMD_RESERVED: `wdata` that is no command code written to CMD (R438). -/
  | cmdReserved (wdata : Word)
  /-- MISALIGNED: an access whose SIZE is not the word code or whose address is not word aligned (R440). -/
  | misaligned (we : Bool) (size : BitVec 2) (addr : BusAddr)
  /-- UNMAPPED: an aligned word access to an address the map does not list (R441). -/
  | unmapped (we : Bool) (addr : BusAddr)
  deriving DecidableEq, Repr

end Sys2Proof
end

