-- ==== Sys2Proof/WellFormed.lean ====
section
/-! DEFINITION. The well-formed operations: those that some transaction word decodes to.
Only the three catch-all operations of 30_encoding.md R112 have a condition on their operands. -/

namespace Sys2Proof

/-- The address lies in the map of 20_memory.md R86, the buffer windows taken whole
(a word index at or above BUF_CAP is refused at execution, 30_encoding.md R114). -/
def mappedAddr (addr : BusAddr) : Bool :=
  let n := addr.toNat
  (decide (n < 0x80) && !([0x1C, 0x54, 0x58, 0x5C].contains n))
    || (decide (0x10000 ≤ n) && decide (n < 0x50000))

/-- The address is a multiple of four (20_memory.md R83). -/
def alignedAddr (addr : BusAddr) : Bool := addr.toNat % 4 == 0

/-- Some transaction word decodes to this operation. -/
def Instr.wf : Instr → Bool
  | .rdId => true
  | .rdStatus => true
  | .rdErr => true
  | .rdCmd => true
  | .rdTxen => true
  | .rdInten => true
  | .rdIntstat => true
  | .rdFreq => true
  | .rdMode => true
  | .rdAmp => true
  | .rdDither => true
  | .rdHd3amp => true
  | .rdHd3ph => true
  | .rdMaxw => true
  | .rdSeed => true
  | .rdNwords => true
  | .rdNperiods => true
  | .rdFexact => true
  | .rdClkdiv => true
  | .rdApproxIter => true
  | .rdSolvTnum => true
  | .rdSolvTden => true
  | .rdSolvQmax => true
  | .rdSolvP => true
  | .rdSolvQ => true
  | .rdSolvIter => true
  | .rdParamCap => true
  | .rdParamCpu => true
  | .wrRoId => true
  | .wrRoStatus => true
  | .wrErr _ => true
  | .cmdApply => true
  | .cmdRestorePins => true
  | .cmdSolve => true
  | .wrTxen _ => true
  | .wrInten _ => true
  | .wrIntstat _ => true
  | .wrFreq _ => true
  | .wrMode _ => true
  | .wrAmp _ => true
  | .wrDither _ => true
  | .wrHd3amp _ => true
  | .wrHd3ph _ => true
  | .wrMaxw _ => true
  | .wrSeed _ => true
  | .wrRoNwords => true
  | .wrRoNperiods => true
  | .wrRoFexact => true
  | .wrRoClkdiv => true
  | .wrRoApproxIter => true
  | .wrSolvTnum _ => true
  | .wrSolvTden _ => true
  | .wrSolvQmax _ => true
  | .wrRoSolvP => true
  | .wrRoSolvQ => true
  | .wrRoSolvIter => true
  | .wrRoParamCap => true
  | .wrRoParamCpu => true
  | .rdBufSilent _ => true
  | .rdBufSteady _ => true
  | .rdBufRampup _ => true
  | .rdBufRampdown _ => true
  | .wrRoBufSilent _ => true
  | .wrRoBufSteady _ => true
  | .wrRoBufRampup _ => true
  | .wrRoBufRampdown _ => true
  | .cmdReserved wdata => wdata != 1#32 && wdata != 2#32 && wdata != 3#32
  | .misaligned _ size addr => size != 2#2 || !alignedAddr addr
  | .unmapped _ addr => alignedAddr addr && !mappedAddr addr

end Sys2Proof
end

