-- ==== Sys2Proof/Decode.lean ====
section
/-! DEFINITION. Decoding of transaction words (30_encoding.md R110 to R117) and, after it,
the encoder. Decoding is total: every 54-bit word is exactly one operation (R112, R117). -/

namespace Sys2Proof

/-- The one name by which bytes are refused: their value has a bit at position 54 or above,
so they hold no transaction word (30_encoding.md R110; log 14). -/
inductive DecodeError where
  | notATransactionWord
  deriving DecidableEq, Repr

/-! ## Fields (R111) -/

/-- WE, bit 53: true for a write. -/
def twWe (tw : TransWord) : Bool := tw.getLsbD 53
/-- SIZE, bits 52:51. -/
def twSize (tw : TransWord) : BitVec 2 := tw.extractLsb' 51 2
/-- ADDR, bits 50:32. -/
def twAddr (tw : TransWord) : BusAddr := tw.extractLsb' 32 19
/-- WDATA, bits 31:0. -/
def twData (tw : TransWord) : Word := tw.extractLsb' 0 32
/-- The word code of SIZE (R110). -/
def sizeWord : BitVec 2 := 2#2
/-- `addr[1:0]`, the bits that must be 0 (20_memory.md R83). -/
def addrLow (addr : BusAddr) : BitVec 2 := addr.extractLsb' 0 2
/-- `addr[18:16]`: 1 to 4 select a buffer window (R111, R114). -/
def addrBank (addr : BusAddr) : BitVec 3 := addr.extractLsb' 16 3
/-- `addr[15:2]`, the word index of a buffer access (R111). -/
def addrIndex (addr : BusAddr) : BitVec 14 := addr.extractLsb' 2 14

/-! ## The operation tables (R113, R114, R115) -/

/-- The buffer rows of R114. -/
def decodeBuffer (we : Bool) (addr : BusAddr) : Option Instr :=
  let w := addrIndex addr
  match (addrBank addr).toNat with
  | 1 => some (if we then .wrRoBufSilent w else .rdBufSilent w)
  | 2 => some (if we then .wrRoBufSteady w else .rdBufSteady w)
  | 3 => some (if we then .wrRoBufRampup w else .rdBufRampup w)
  | 4 => some (if we then .wrRoBufRampdown w else .rdBufRampdown w)
  | _ => none

/-- The read column of R113. -/
def decodeRead (addr : BusAddr) : Option Instr :=
  match addr.toNat with
  | 0x000 => some .rdId
  | 0x004 => some .rdStatus
  | 0x008 => some .rdErr
  | 0x00C => some .rdCmd
  | 0x010 => some .rdTxen
  | 0x014 => some .rdInten
  | 0x018 => some .rdIntstat
  | 0x020 => some .rdFreq
  | 0x024 => some .rdMode
  | 0x028 => some .rdAmp
  | 0x02C => some .rdDither
  | 0x030 => some .rdHd3amp
  | 0x034 => some .rdHd3ph
  | 0x038 => some .rdMaxw
  | 0x03C => some .rdSeed
  | 0x040 => some .rdNwords
  | 0x044 => some .rdNperiods
  | 0x048 => some .rdFexact
  | 0x04C => some .rdClkdiv
  | 0x050 => some .rdApproxIter
  | 0x060 => some .rdSolvTnum
  | 0x064 => some .rdSolvTden
  | 0x068 => some .rdSolvQmax
  | 0x06C => some .rdSolvP
  | 0x070 => some .rdSolvQ
  | 0x074 => some .rdSolvIter
  | 0x078 => some .rdParamCap
  | 0x07C => some .rdParamCpu
  | _ => none

/-- A write to CMD: the codes of R115, every other value reserved (R116). -/
def decodeCommand (wdata : Word) : Instr :=
  if wdata = 1#32 then .cmdApply
  else if wdata = 2#32 then .cmdRestorePins
  else if wdata = 3#32 then .cmdSolve
  else .cmdReserved wdata

/-- The write column of R113. -/
def decodeWrite (addr : BusAddr) (wdata : Word) : Option Instr :=
  match addr.toNat with
  | 0x00C => some (decodeCommand wdata)
  | 0x000 => some .wrRoId
  | 0x004 => some .wrRoStatus
  | 0x008 => some (.wrErr wdata)
  | 0x010 => some (.wrTxen wdata)
  | 0x014 => some (.wrInten wdata)
  | 0x018 => some (.wrIntstat wdata)
  | 0x020 => some (.wrFreq wdata)
  | 0x024 => some (.wrMode wdata)
  | 0x028 => some (.wrAmp wdata)
  | 0x02C => some (.wrDither wdata)
  | 0x030 => some (.wrHd3amp wdata)
  | 0x034 => some (.wrHd3ph wdata)
  | 0x038 => some (.wrMaxw wdata)
  | 0x03C => some (.wrSeed wdata)
  | 0x040 => some .wrRoNwords
  | 0x044 => some .wrRoNperiods
  | 0x048 => some .wrRoFexact
  | 0x04C => some .wrRoClkdiv
  | 0x050 => some .wrRoApproxIter
  | 0x060 => some (.wrSolvTnum wdata)
  | 0x064 => some (.wrSolvTden wdata)
  | 0x068 => some (.wrSolvQmax wdata)
  | 0x06C => some .wrRoSolvP
  | 0x070 => some .wrRoSolvQ
  | 0x074 => some .wrRoSolvIter
  | 0x078 => some .wrRoParamCap
  | 0x07C => some .wrRoParamCpu
  | _ => none

/-- The operation of an aligned word access: the tables, else UNMAPPED (R112 steps 2 to 4). -/
def decodeAligned (we : Bool) (addr : BusAddr) (wdata : Word) : Instr :=
  match decodeBuffer we addr with
  | some i => i
  | none =>
    match (if we then decodeWrite addr wdata else decodeRead addr) with
    | some i => i
    | none => .unmapped we addr

/-- The operation of a transaction word, in the order of R112. -/
def decodeTw (tw : TransWord) : Instr :=
  if twSize tw = sizeWord ∧ addrLow (twAddr tw) = 0#2 then
    decodeAligned (twWe tw) (twAddr tw) (twData tw)
  else .misaligned (twWe tw) (twSize tw) (twAddr tw)

/-! ## Bytes -/

/-- The number a list of bytes stands for, the first byte least significant. -/
def leValue : List Byte → Nat
  | [] => 0
  | b :: bs => b.toNat + 256 * leValue bs

/-- The first `n` bytes of a number, least significant first. -/
def leBytes : Nat → Nat → List Byte
  | 0, _ => []
  | n + 1, v => BitVec.ofNat 8 v :: leBytes n (v / 256)

/-- The operation in a list of bytes that holds a transaction word, least significant byte
first (log 14); missing bytes are 0. -/
def decode (bytes : List Byte) : Except DecodeError Instr :=
  if leValue bytes < 2 ^ 54 then .ok (decodeTw (BitVec.ofNat 54 (leValue bytes)))
  else .error .notATransactionWord

/-- The host's question: the operation in the `nbits` bits `w`, numbered as the opcode table
numbers them. -/
def decodeTableWord (nbits w : Nat) : Option Instr :=
  match decode (leBytes ((nbits + 7) / 8) (w % 2 ^ nbits)) with
  | .ok i => some i
  | .error _ => none

/-! ## The encoder -/

/-- The transaction word with these fields (R110). -/
def twOf (we : Bool) (size : BitVec 2) (addr : BusAddr) (wdata : Word) : TransWord :=
  BitVec.ofBool we ++ size ++ addr ++ wdata

/-- A read of the register at this offset; WDATA "should be 0" (R110). -/
def encodeRead (offset : BusAddr) : TransWord := twOf false sizeWord offset 0#32
/-- A write to the register at this offset. -/
def encodeWrite (offset : BusAddr) (wdata : Word) : TransWord := twOf true sizeWord offset wdata
/-- An access to word `w` of the buffer with window number `bank` (R114). -/
def encodeBuffer (we : Bool) (bank : BitVec 3) (w : BitVec 14) : TransWord :=
  twOf we sizeWord (bank ++ w ++ 0#2) 0#32

/-- The transaction word of an operation, ignored WDATA bits 0. -/
def encode : Instr → TransWord
  | .rdId => encodeRead 0x00000#19
  | .rdStatus => encodeRead 0x00004#19
  | .rdErr => encodeRead 0x00008#19
  | .rdCmd => encodeRead 0x0000C#19
  | .rdTxen => encodeRead 0x00010#19
  | .rdInten => encodeRead 0x00014#19
  | .rdIntstat => encodeRead 0x00018#19
  | .rdFreq => encodeRead 0x00020#19
  | .rdMode => encodeRead 0x00024#19
  | .rdAmp => encodeRead 0x00028#19
  | .rdDither => encodeRead 0x0002C#19
  | .rdHd3amp => encodeRead 0x00030#19
  | .rdHd3ph => encodeRead 0x00034#19
  | .rdMaxw => encodeRead 0x00038#19
  | .rdSeed => encodeRead 0x0003C#19
  | .rdNwords => encodeRead 0x00040#19
  | .rdNperiods => encodeRead 0x00044#19
  | .rdFexact => encodeRead 0x00048#19
  | .rdClkdiv => encodeRead 0x0004C#19
  | .rdApproxIter => encodeRead 0x00050#19
  | .rdSolvTnum => encodeRead 0x00060#19
  | .rdSolvTden => encodeRead 0x00064#19
  | .rdSolvQmax => encodeRead 0x00068#19
  | .rdSolvP => encodeRead 0x0006C#19
  | .rdSolvQ => encodeRead 0x00070#19
  | .rdSolvIter => encodeRead 0x00074#19
  | .rdParamCap => encodeRead 0x00078#19
  | .rdParamCpu => encodeRead 0x0007C#19
  | .wrRoId => encodeWrite 0x00000#19 0#32
  | .wrRoStatus => encodeWrite 0x00004#19 0#32
  | .wrErr wdata => encodeWrite 0x00008#19 wdata
  | .cmdApply => encodeWrite 0x0000C#19 1#32
  | .cmdRestorePins => encodeWrite 0x0000C#19 2#32
  | .cmdSolve => encodeWrite 0x0000C#19 3#32
  | .wrTxen wdata => encodeWrite 0x00010#19 wdata
  | .wrInten wdata => encodeWrite 0x00014#19 wdata
  | .wrIntstat wdata => encodeWrite 0x00018#19 wdata
  | .wrFreq wdata => encodeWrite 0x00020#19 wdata
  | .wrMode wdata => encodeWrite 0x00024#19 wdata
  | .wrAmp wdata => encodeWrite 0x00028#19 wdata
  | .wrDither wdata => encodeWrite 0x0002C#19 wdata
  | .wrHd3amp wdata => encodeWrite 0x00030#19 wdata
  | .wrHd3ph wdata => encodeWrite 0x00034#19 wdata
  | .wrMaxw wdata => encodeWrite 0x00038#19 wdata
  | .wrSeed wdata => encodeWrite 0x0003C#19 wdata
  | .wrRoNwords => encodeWrite 0x00040#19 0#32
  | .wrRoNperiods => encodeWrite 0x00044#19 0#32
  | .wrRoFexact => encodeWrite 0x00048#19 0#32
  | .wrRoClkdiv => encodeWrite 0x0004C#19 0#32
  | .wrRoApproxIter => encodeWrite 0x00050#19 0#32
  | .wrSolvTnum wdata => encodeWrite 0x00060#19 wdata
  | .wrSolvTden wdata => encodeWrite 0x00064#19 wdata
  | .wrSolvQmax wdata => encodeWrite 0x00068#19 wdata
  | .wrRoSolvP => encodeWrite 0x0006C#19 0#32
  | .wrRoSolvQ => encodeWrite 0x00070#19 0#32
  | .wrRoSolvIter => encodeWrite 0x00074#19 0#32
  | .wrRoParamCap => encodeWrite 0x00078#19 0#32
  | .wrRoParamCpu => encodeWrite 0x0007C#19 0#32
  | .rdBufSilent w => encodeBuffer false 1#3 w
  | .rdBufSteady w => encodeBuffer false 2#3 w
  | .rdBufRampup w => encodeBuffer false 3#3 w
  | .rdBufRampdown w => encodeBuffer false 4#3 w
  | .wrRoBufSilent w => encodeBuffer true 1#3 w
  | .wrRoBufSteady w => encodeBuffer true 2#3 w
  | .wrRoBufRampup w => encodeBuffer true 3#3 w
  | .wrRoBufRampdown w => encodeBuffer true 4#3 w
  | .cmdReserved wdata => encodeWrite 0x0000C#19 wdata
  | .misaligned we size addr => twOf we size addr 0#32
  | .unmapped we addr => twOf we sizeWord addr 0#32

end Sys2Proof
end

