-- ==== Sys2Proof/Config.lean ====
section
/-! DEFINITION. The four parameters of the block (00_scope.md R4), which the spec leaves
without a value. Each rests on an opaque choice, so that a proof holds for every value the
parameter may take (logs 7 and 8). -/

namespace Sys2Proof

/-- Properties (a) to (d) of 42_waveform_fill.md R244: the exact shape of an admissible sine
over 32-bit turn values, in Q1.30. -/
structure SineShape (sin : Word → Int) : Prop where
  at_zero : sin 0#32 = 0
  at_quarter : sin 0x40000000#32 = 2 ^ 30
  at_half : sin 0x80000000#32 = 0
  at_three_quarters : sin 0xC0000000#32 = -2 ^ 30
  odd : ∀ u : Word, sin (-u) = -sin u
  quarter_symmetric : ∀ u : Word, u ≤ 0x80000000#32 → sin (0x80000000#32 - u) = sin u
  rising : ∀ u v : Word, u ≤ v → v ≤ 0x40000000#32 → sin u ≤ sin v

/-- An admissible sine: R244 (a) to (d), and (e), within 4096 of `2^30 * sin(2*pi*u/2^32)`. -/
structure SineAdmissible (sin : Word → Int) : Prop extends SineShape sin where
  accurate : ∀ u : Word,
    |(sin u : ℝ) - 2 ^ 30 * Real.sin (2 * Real.pi * u.toNat / 2 ^ 32)| ≤ 4096

namespace Config

/-- The open choice behind BUF_CAP. -/
opaque bufCapChoice : Nat

/-- BUF_CAP, words per buffer: any number from 2 to 16384 (R4, P2). -/
def bufCap : Nat := min bufCapChoice 16382 + 2

/-- The open choice behind CPU_HZ. -/
opaque cpuHzChoice : Nat

/-- CPU_HZ, the sample clock in Hz: any number from 1 000 000 to 2^30 - 1 (R4, P3). -/
def cpuHz : Nat := max 1000000 (min cpuHzChoice 1073741823)

/-- The open choice behind ABORT_POLL_MAX. -/
opaque abortPollChoice : Nat

/-- ABORT_POLL_MAX, the halt poll budget: any number of at least 1 (R4, P4). -/
def abortPollMax : Nat := abortPollChoice + 1

/-- The open choice behind SIN: some admissible sine, or none for the reference sine of R245
(Machine/Sine.lean). -/
opaque sineChoice : Option {sin : Word → Int // SineAdmissible sin}

end Config

end Sys2Proof
end

