-- ==== Sys2Proof/Machine/State.lean ====
section
/-! DEFINITION. The state of the block (10_state.md R20), what can stop a step, and the state
after reset (70_reset_and_hazards.md R490). -/

namespace Sys2Proof.Machine

/-- SEQ, the sequencer's phase; the code 3 is never held (R52). -/
inductive Seq where
  | idle
  | halting
  | computing
  deriving DecidableEq, Repr

/-- STATE, the latch of the output FSM (R55). -/
inductive OutputState where
  | silent
  | transmitting
  deriving DecidableEq, Repr

/-- OUTSEL, the peripheral program loaded on the output pins; the code 3 is never held (R62). -/
inductive OutSel where
  | noProgram
  | serial
  | clkdiv
  deriving DecidableEq, Repr

/-- One record of the output trace: the emitted pair, tagged with PIN_OWN and OUTSEL at the time
of emission (R64, 43_output_fsm.md R322). -/
structure TraceRec where
  pair : BitVec 2
  pinOwn : Bool
  outsel : OutSel
  deriving DecidableEq, Repr

/-- The steps of the internal agents, which have no transaction word (30_encoding.md R120). -/
inductive AgentStep where
  | engEmit
  | engAbort
  | fsmStep
  | seqPoll
  | seqCompute
  deriving DecidableEq, Repr

/-- One turn of the schedule: a host transaction, an agent's step (the `@agent.step` lines of
30_encoding.md R123) or a reset of the block (log 2). -/
inductive Turn where
  | host (tw : TransWord)
  | agent (a : AgentStep)
  | reset
  deriving DecidableEq, Repr

/-- The bytes of the sample buffers at their host bus addresses (20_memory.md R81, R86), in the
canonical form of `Memory.wf`. -/
abbrev Memory := List Host.Cell

/-- The state of the block (10_state.md), with the model's own `rdata` and `input`. -/
structure State where
  /-- ERR.CODE (R24). -/
  errCode : BitVec 4
  /-- ERR.OVF (R24). -/
  errOvf : Bool
  /-- ERR.VALID (R24). -/
  errValid : Bool
  /-- TXEN.EN (R26). -/
  txen : Bool
  /-- INTEN (R27). -/
  inten : BitVec 4
  /-- INTSTAT (R28). -/
  intstat : BitVec 4
  /-- FREQ, unsigned Q26.6 Hz (R29). -/
  freq : Word
  /-- MODE (R30). -/
  mode : BitVec 3
  /-- AMP, unsigned Q16.16 (R31). -/
  amp : BitVec 18
  /-- DITHER, unsigned Q16.16 (R32). -/
  dither : BitVec 18
  /-- HD3AMP, signed Q16.16 (R33). -/
  hd3amp : Word
  /-- HD3PH, a turn value (R34). -/
  hd3ph : Word
  /-- MAXW (R35). -/
  maxw : BitVec 14
  /-- SEED (R36). -/
  seed : Word
  /-- NWORDS (R37). -/
  nwords : BitVec 15
  /-- NPERIODS (R38). -/
  nperiods : BitVec 15
  /-- FEXACT, unsigned Q26.6 Hz (R39). -/
  fexact : Word
  /-- CLKDIV, unsigned 16.8 (R41). -/
  clkdiv : BitVec 24
  /-- APPROX_ITER (R42). -/
  approxIter : BitVec 7
  /-- SOLV_TNUM, signed (R43). -/
  solvTnum : Word
  /-- SOLV_TDEN (R44). -/
  solvTden : Word
  /-- SOLV_QMAX (R45). -/
  solvQmax : Word
  /-- SOLV_P (R46). -/
  solvP : Word
  /-- SOLV_Q (R47). -/
  solvQ : Word
  /-- SOLV_ITER (R48). -/
  solvIter : BitVec 7
  /-- BUF[0..3] (R40). -/
  mem : Memory
  /-- DIRTY (R51). -/
  dirty : Bool
  /-- SEQ (R52). -/
  seq : Seq
  /-- POLL, a count from 0 to ABORT_POLL_MAX (R53). -/
  poll : Nat
  /-- FATAL (R54). -/
  fatal : Bool
  /-- STATE (R55). -/
  outputState : OutputState
  /-- IND (R56). -/
  ind : Bool
  /-- ARMED (R57). -/
  armed : Bool
  /-- ABORT_REQ (R58). -/
  abortReq : Bool
  /-- IRQ_PEND (R59). -/
  irqPend : Bool
  /-- ENG_ACTIVE (R60). -/
  engActive : Bool
  /-- ENG_BUF (R60). -/
  engBuf : BitVec 2
  /-- ENG_WORD (R60). -/
  engWord : BitVec 15
  /-- ENG_SLOT (R60). -/
  engSlot : BitVec 4
  /-- PIN_OWN (R61). -/
  pinOwn : Bool
  /-- OUTSEL (R62). -/
  outsel : OutSel
  /-- FILLED (R63). -/
  filled : Bool
  /-- The output trace, in emission order (R64). -/
  trace : List TraceRec
  /-- The model's own: the value the last host transaction returned, `none` when it returned
  nothing (30_encoding.md R110; log 1). -/
  rdata : Option Word
  /-- The model's own: the turns still to come (00_scope.md R2; log 2). -/
  input : List Turn
  deriving DecidableEq, Repr

/-- Why a step of the model stops. The block itself never stops (60_exceptions.md R450). -/
inductive Fault where
  /-- Raised by ENG_EMIT when ENG_WORD is not below BUF_CAP: the engine port would read a buffer
  word that does not exist. No run reaches it (20_memory.md R84, 10_state.md R68 (d), (e)), so it
  is safe (log 5). -/
  | engineWordOutOfRange
  deriving DecidableEq, Repr

/-- Why an operation has no meaning in the model. -/
inductive Refusal where
  /-- Raised by an arm of `exec` whose instruction has no meaning yet; no arm does so. Safe. -/
  | notModelled (mnemonic : String)
  deriving DecidableEq, Repr

/-- The state after reset: every element at the value 10_state.md gives it (R490), the trace
empty (R492). The buffers list nothing (R491, log 4); the model's own fields hold nothing
(logs 1 and 2). -/
def State.reset : State where
  errCode := 0#4
  errOvf := false
  errValid := false
  txen := false
  inten := 0#4
  intstat := 0#4
  freq := 6400000#32
  mode := 5#3
  amp := 0x10000#18
  dither := 0#18
  hd3amp := 0#32
  hd3ph := 0#32
  maxw := 10000#14
  seed := 0x9E3779B9#32
  nwords := 0#15
  nperiods := 0#15
  fexact := 0#32
  clkdiv := 0#24
  approxIter := 0#7
  solvTnum := 0#32
  solvTden := 1#32
  solvQmax := 1#32
  solvP := 0#32
  solvQ := 1#32
  solvIter := 0#7
  mem := []
  dirty := true
  seq := .idle
  poll := 0
  fatal := false
  outputState := .silent
  ind := false
  armed := false
  abortReq := false
  irqPend := false
  engActive := false
  engBuf := 0#2
  engWord := 0#15
  engSlot := 0#4
  pinOwn := false
  outsel := .noProgram
  filled := false
  trace := []
  rdata := none
  input := []

end Sys2Proof.Machine
end

