-- ==== Sys2Proof/Machine/Ops.lean ====
section
/-! DEFINITION. The named operations over the buffer memory and over the state: word access,
recording an error (the block's form of taking an exception: 60_exceptions.md R452, R461), the
host's response, and the engine's position. The block has no return from an exception (R462). -/

namespace Sys2Proof.Machine

/-! ## Buffer memory -/

/-- What a byte that nothing has written reads as. The spec leaves the buffers' reset content
open (70_reset_and_hazards.md R491); DESIGN CHOICE, log 4. -/
def unlistedByte : Byte := 0#8

/-- The byte at an address. -/
def Memory.readByte : Memory → Nat → Byte
  | [], _ => unlistedByte
  | (k, v) :: rest, a => if k = a then v else Memory.readByte rest a

/-- The memory with one byte replaced, in canonical form. -/
def Memory.writeByte : Memory → Nat → Byte → Memory
  | [], a, v => if v = unlistedByte then [] else [(a, v)]
  | (k, u) :: rest, a, v =>
    if a < k then
      if v = unlistedByte then (k, u) :: rest else (a, v) :: (k, u) :: rest
    else if a = k then
      if v = unlistedByte then rest else (a, v) :: rest
    else (k, u) :: Memory.writeByte rest a v

/-- The canonical form: addresses strictly rising, no byte equal to an unlisted one. -/
def Memory.wf : Memory → Bool
  | [] => true
  | (k, v) :: rest =>
    v != unlistedByte && rest.all (fun c => decide (k < c.1)) && Memory.wf rest

/-- The 32-bit word at an address, little-endian (20_memory.md R81). -/
def Memory.readWord (m : Memory) (a : Nat) : Word :=
  m.readByte (a + 3) ++ m.readByte (a + 2) ++ m.readByte (a + 1) ++ m.readByte a

/-- The memory with a 32-bit word replaced, little-endian (R81). -/
def Memory.writeWord (m : Memory) (a : Nat) (v : Word) : Memory :=
  (((m.writeByte a (v.extractLsb' 0 8)).writeByte (a + 1) (v.extractLsb' 8 8)).writeByte
    (a + 2) (v.extractLsb' 16 8)).writeByte (a + 3) (v.extractLsb' 24 8)

/-- The memory with consecutive words replaced from an address on. -/
def Memory.writeWords (m : Memory) (a : Nat) : List Word → Memory
  | [] => m
  | v :: vs => Memory.writeWords (m.writeWord a v) (a + 4) vs

/-- The bus address of word `w` of buffer `b` (20_memory.md R86). -/
def bufAddr (b : BitVec 2) (w : Nat) : Nat := 0x10000 * (b.toNat + 1) + 4 * w

/-- `MemRead(b, w)` (00_scope.md R9). -/
def memRead (m : Memory) (b : BitVec 2) (w : Nat) : Word := m.readWord (bufAddr b w)

/-! ## Errors -/

/-- The error codes (60_exceptions.md R451). -/
inductive ErrorCode where
  | range
  | busy
  | badAddr
  | align
  | readonly
  | badCmd
  | notFilled
  | abortTimeout
  | fatal
  deriving DecidableEq, Repr

/-- The number of an error code (R451). -/
def ErrorCode.bits : ErrorCode → BitVec 4
  | .range => 1#4
  | .busy => 2#4
  | .badAddr => 3#4
  | .align => 4#4
  | .readonly => 5#4
  | .badCmd => 6#4
  | .notFilled => 7#4
  | .abortTimeout => 8#4
  | .fatal => 9#4

/-- The host interrupt events (60_exceptions.md R456). -/
inductive Event where
  | err
  | applyDone
  | keyOn
  | keyOff
  deriving DecidableEq, Repr

/-- The INTSTAT bit of an event (10_state.md R28). -/
def Event.mask : Event → BitVec 4
  | .err => 1#4
  | .applyDone => 2#4
  | .keyOn => 4#4
  | .keyOff => 8#4

/-- An event latches its INTSTAT bit (R456). -/
def raiseEvent (e : Event) (s : State) : State := { s with intstat := s.intstat ||| e.mask }

/-- `record(code)`: the first error is kept, a further one sets OVF, and INTSTAT.ERR latches
(60_exceptions.md R452). -/
def record (code : ErrorCode) (s : State) : State :=
  { s with
    errCode := if s.errValid then s.errCode else code.bits
    errValid := true
    errOvf := s.errOvf || s.errValid
    intstat := s.intstat ||| Event.err.mask }

/-! ## The host's response -/

/-- The host step ends and returns this (`none` for a write). -/
def respond (v : Option Word) (s : State) : State := { s with rdata := v }

/-- An admitted read: RDATA, and no state changes (45_bus_access.md R390). -/
def answer (v : Word) (s : State) : Host.Outcome State Fault Refusal := .next (respond (some v) s)

/-- An admitted write. -/
def accept (s : State) : Host.Outcome State Fault Refusal := .next (respond none s)

/-- A rejected read records its error and returns 0 (R390, 60_exceptions.md R450). -/
def rejectRead (code : ErrorCode) (s : State) : Host.Outcome State Fault Refusal :=
  .next (respond (some 0#32) (record code s))

/-- A rejected write records its error and changes nothing else (60_exceptions.md R450). -/
def rejectWrite (code : ErrorCode) (s : State) : Host.Outcome State Fault Refusal :=
  .next (respond none (record code s))

/-- A rejected access, a write or a read by its WE bit. -/
def rejectAccess (we : Bool) (code : ErrorCode) (s : State) : Host.Outcome State Fault Refusal :=
  if we then rejectWrite code s else rejectRead code s

/-! ## The engine's position -/

/-- `arm(b)`: the engine starts buffer `b` from its first sample (43_output_fsm.md R324). -/
def arm (b : BitVec 2) (s : State) : State :=
  { s with engBuf := b, engWord := 0#15, engSlot := 0#4, engActive := true }

/-- The engine goes idle; ENG_BUF keeps its value (43_output_fsm.md R323, R325). -/
def stopEngine (s : State) : State :=
  { s with engActive := false, engWord := 0#15, engSlot := 0#4 }

/-- `emit(pair)`: one record at the end of the trace (43_output_fsm.md R322). -/
def emit (pair : BitVec 2) (s : State) : State :=
  { s with trace := s.trace ++ [⟨pair, s.pinOwn, s.outsel⟩] }

/-- The state with this schedule. -/
def withInput (turns : List Turn) (s : State) : State := { s with input := turns }

end Sys2Proof.Machine
end

