-- ==== Sys2Proof/Machine/Engine.lean ====
section
/-! DEFINITION. The streaming engine's steps (43_output_fsm.md R320 to R325). -/

namespace Sys2Proof.Machine

/-- The pair in slot `j` of a buffer word (R321; 42_waveform_fill.md R269). -/
def slotPair (word : Word) (j : BitVec 4) : BitVec 2 := (word >>> (2 * j.toNat)).setWidth 2

/-- The engine's position moves on by one slot, or the buffer completes (R321, R323). -/
def advance (s : State) : State :=
  if s.engSlot.toNat < 15 then { s with engSlot := s.engSlot + 1#4 }
  else if s.engWord.toNat + 1 < s.nwords.toNat then
    { s with engSlot := 0#4, engWord := s.engWord + 1#15 }
  else { stopEngine s with irqPend := true }

/-- ENG_EMIT (R321), enabled when ENG_ACTIVE = 1; an engine that is not active passes (log 3). The
word must exist (log 5). -/
def engEmit (s : State) : Host.Outcome State Fault Refusal :=
  if s.engActive = false then .next s
  else if s.engWord.toNat ≥ Config.bufCap then .fault .engineWordOutOfRange
  else .next (advance (emit (slotPair (memRead s.mem s.engBuf s.engWord.toNat) s.engSlot) s))

/-- ENG_ABORT (R325), enabled when ABORT_REQ = 1; it is no completion. -/
def engAbort (s : State) : State :=
  if s.abortReq then { stopEngine s with abortReq := false } else s

end Sys2Proof.Machine
end

