-- ==== Sys2Proof/Machine/Fsm.lean ====
section
/-! DEFINITION. The output FSM's step (43_output_fsm.md R300 to R307). -/

namespace Sys2Proof.Machine

/-- The choice of the next buffer from TXEN and STATE (R303 to R306). -/
def chooseBuffer (s : State) : State :=
  match s.txen, s.outputState with
  | true, .transmitting => arm 1#2 s
  | true, .silent =>
    raiseEvent .keyOn { arm 2#2 s with ind := true, outputState := .transmitting }
  | false, .silent => arm 0#2 s
  | false, .transmitting =>
    raiseEvent .keyOff { arm 3#2 s with ind := false, outputState := .silent }

/-- FSM_STEP (R300), enabled when IRQ_PEND = 1: it always acknowledges (R301) and arms a buffer
only when the trigger is enabled and the engine is idle (R302). -/
def fsmStep (s : State) : State :=
  if s.irqPend then
    if s.armed && !s.engActive then chooseBuffer { s with irqPend := false }
    else { s with irqPend := false }
  else s

end Sys2Proof.Machine
end

