-- ==== Sys2Proof/Machine/Fixed.lean ====
section
/-! DEFINITION. The numeric primitives of 00_scope.md R7 and R8. Values are mathematical
integers and are narrowed only where a rule stores them. -/

namespace Sys2Proof.Machine

/-- `asr(v, n)`: arithmetic shift right, rounding toward minus infinity (R7). -/
def asr (v : Int) (n : Nat) : Int := v / 2 ^ n

/-- `sat32(v)`: the nearest 32-bit two's-complement value (R7). -/
def sat32 (v : Int) : Int := min (max v (-2 ^ 31)) (2 ^ 31 - 1)

/-- `ONE`, 1.0 in Q16.16 (R8). -/
def one16 : Int := 2 ^ 16

/-- `Q30`, 1.0 in Q1.30 (R8). -/
def q30 : Int := 2 ^ 30

end Sys2Proof.Machine
end

