-- ==== Sys2Proof/Machine/Fill.lean ====
section
/-! DEFINITION. The waveform quantization engine (42_waveform_fill.md): phase path, amplitude
path, dither, quantizers, packing and the four buffer contents, over a sine given as an
argument. -/

namespace Sys2Proof.Machine

/-! ## Phase path -/

/-- `EPS_T` (R243). -/
def epsT : Nat := 6836

/-- `θ_i`, the phase of sample `i` of `n` with `p` periods, as a turn value (R242, R243). -/
def phase (n p i : Nat) : Word := BitVec.ofNat 32 ((i * p % n) * 2 ^ 32 / n + epsT)

/-- The phase of the third harmonic (R246). -/
def harmonicPhase (θ hd3ph : Word) : Word := 3#32 * θ + hd3ph

/-! ## Amplitude path -/

/-- `x_i`, the ideal sample at phase `θ`, signed Q16.16 (R247). -/
def idealSample (sin : Word → Int) (amp : BitVec 18) (hd3amp hd3ph θ : Word) : Int :=
  asr (amp.toNat * sin θ + hd3amp.toInt * sin (harmonicPhase θ hd3ph)) 30

/-- `t_i`, the turn value of `pi * i / (n - 1)` (R249). -/
def windowPhase (n i : Nat) : Nat := i * 2 ^ 31 / (n - 1)

/-- `w_i`, the raised-cosine window, Q1.30 (R249). -/
def window (sin : Word → Int) (n i : Nat) : Int :=
  asr (q30 - sin (BitVec.ofNat 32 (windowPhase n i + 2 ^ 30))) 1

/-- `xu_i`, the ramp-up sample (R250). -/
def rampUpSample (sin : Word → Int) (n i : Nat) (x : Int) : Int := asr (x * window sin n i) 30

/-- `xd_i`, the ramp-down sample (R251). -/
def rampDownSample (sin : Word → Int) (n i : Nat) (x : Int) : Int :=
  asr (x * window sin n (n - 1 - i)) 30

/-! ## Dither -/

/-- One draw of the xorshift generator: the next state, which is the draw's value (R252). -/
def draw (r : Word) : Word :=
  let r1 := r ^^^ (r <<< 13)
  let r2 := r1 ^^^ (r1 >>> 17)
  r2 ^^^ (r2 <<< 5)

/-- The dither value of a draw, signed Q16.16 (R254). -/
def ditherValue (dither : BitVec 18) (r : Word) : Int := asr (dither.toNat * r.toInt) 31

/-! ## Quantizers -/

/-- The three quantizers (R257). -/
inductive Quantizer where
  | comparator
  | binary
  | trinary
  deriving DecidableEq, Repr

/-- The quantizer MODE selects; trinary is the fallback (R257). -/
def quantizerOf (mode : BitVec 3) : Quantizer :=
  if mode = 1#3 then .comparator
  else if mode = 2#3 ∨ mode = 4#3 then .binary
  else .trinary

/-- An output level: +1, 0 or -1. -/
inductive Level where
  | plus
  | zero
  | minus
  deriving DecidableEq, Repr

/-- The number a level stands for. -/
def Level.value : Level → Int
  | .plus => 1
  | .zero => 0
  | .minus => -1

/-- `T`, the trinary threshold (R263). -/
def trinaryThreshold : Int := 21845

/-- What carries over between the samples of one series: the accumulator `e` and the alternation
bit `last` (R256). -/
structure QuantState where
  err : Int
  last : Bool
  deriving DecidableEq, Repr

/-- Both start at 0 for every series (R256). -/
def QuantState.init : QuantState := ⟨0, false⟩

/-- `v`, the quantizer's input: the comparator does not use `e` (R260, R261, R264). -/
def quantInput (q : Quantizer) (s d e : Int) : Int :=
  match q with
  | .comparator => s + d
  | .binary => s + d + e
  | .trinary => s + d + e

/-- `y`, the decision (R260, R261, R264). -/
def decideLevel (q : Quantizer) (v : Int) : Level :=
  match q with
  | .comparator => if v ≥ 0 then .plus else .minus
  | .binary => if v ≥ 0 then .plus else .minus
  | .trinary =>
    if v > trinaryThreshold then .plus
    else if v < -trinaryThreshold then .minus
    else .zero

/-- `e` after the decision (R262, R265); the comparator has no memory (R260). -/
def errorUpdate (q : Quantizer) (v : Int) (y : Level) (e : Int) : Int :=
  match q with
  | .comparator => e
  | .binary => sat32 (v - y.value * one16)
  | .trinary => sat32 (v - y.value * one16)

/-- The 2-bit code of a level (R268). -/
def sampleCode (y : Level) (last : Bool) : BitVec 2 :=
  match y with
  | .plus => 0b01#2
  | .minus => 0b10#2
  | .zero => if last then 0b11#2 else 0b00#2

/-- `last` after a sample: only the middle level toggles it (R267). -/
def toggleLast (y : Level) (last : Bool) : Bool :=
  match y with
  | .zero => !last
  | .plus => last
  | .minus => last

/-- One sample quantized: its code and what carries over. -/
def quantize (q : Quantizer) (s d : Int) (st : QuantState) : BitVec 2 × QuantState :=
  let v := quantInput q s d st.err
  let y := decideLevel q v
  (sampleCode y st.last, ⟨errorUpdate q v y st.err, toggleLast y st.last⟩)

/-- A series quantized from generator state `r`, one draw per sample: its codes and the generator
state after it (R253). -/
def quantizeSeries (q : Quantizer) (dither : BitVec 18) :
    List Int → Word → QuantState → List (BitVec 2) × Word
  | [], r, _ => ([], r)
  | s :: rest, r, st =>
    let r' := draw r
    let one := quantize q s (ditherValue dither r') st
    let others := quantizeSeries q dither rest r' one.2
    (one.1 :: others.1, others.2)

/-! ## Packing -/

/-- A word of sample codes, the first in bits 1:0 (R269). -/
def packWord : List (BitVec 2) → Word
  | [] => 0#32
  | c :: cs => (packWord cs <<< 2) ||| c.setWidth 32

/-- The first `w` words of a series, 16 codes each (R269). -/
def packWords : Nat → List (BitVec 2) → List Word
  | 0, _ => []
  | w + 1, cs => packWord (cs.take 16) :: packWords w (cs.drop 16)

/-- The words of a series padded with zero words up to the capacity (R274). -/
def padWords (bufCap : Nat) (ws : List Word) : List Word :=
  ws ++ List.replicate (bufCap - ws.length) 0#32

/-! ## The fill -/

/-- The inputs of a fill (R240). -/
structure FillInput where
  words : Nat
  periods : Nat
  amp : BitVec 18
  dither : BitVec 18
  hd3amp : Word
  hd3ph : Word
  mode : BitVec 3
  seed : Word
  deriving DecidableEq, Repr

/-- The four buffer contents (R240). -/
structure Buffers where
  silent : List Word
  steady : List Word
  rampUp : List Word
  rampDown : List Word
  deriving DecidableEq, Repr

/-- Modes 4 and 5 taper the ramps (R255, R272, R273). -/
def clickFree (mode : BitVec 3) : Bool := decide (mode = 4#3) || decide (mode = 5#3)

/-- `N = 16 * W` (R241). -/
def sampleCount (f : FillInput) : Nat := 16 * f.words

/-- The ideal sample `i` of a fill (R243, R247). -/
def steadySample (sin : Word → Int) (f : FillInput) (i : Nat) : Int :=
  idealSample sin f.amp f.hd3amp f.hd3ph (phase (sampleCount f) f.periods i)

/-- The steady series (R247). -/
def steadySeries (sin : Word → Int) (f : FillInput) : List Int :=
  (List.range (sampleCount f)).map (steadySample sin f)

/-- The ramp-up series (R250). -/
def rampUpSeries (sin : Word → Int) (f : FillInput) : List Int :=
  (List.range (sampleCount f)).map fun i =>
    rampUpSample sin (sampleCount f) i (steadySample sin f i)

/-- The ramp-down series (R251). -/
def rampDownSeries (sin : Word → Int) (f : FillInput) : List Int :=
  (List.range (sampleCount f)).map fun i =>
    rampDownSample sin (sampleCount f) i (steadySample sin f i)

/-- A silent buffer (R270). -/
def silentWords (bufCap : Nat) : List Word := List.replicate bufCap 0#32

/-- `fill`: the four buffers. The draws run on from the steady series into the ramp-up series and
on into the ramp-down series (R253), each series starts its accumulator and alternation bit anew
(R256), and modes 1 to 3 copy the steady buffer and leave ramp-down silent (R270 to R274). -/
def fill (sin : Word → Int) (bufCap : Nat) (f : FillInput) : Buffers :=
  let q := quantizerOf f.mode
  let steady := quantizeSeries q f.dither (steadySeries sin f) f.seed QuantState.init
  let steadyWords := padWords bufCap (packWords f.words steady.1)
  if clickFree f.mode then
    let up := quantizeSeries q f.dither (rampUpSeries sin f) steady.2 QuantState.init
    let down := quantizeSeries q f.dither (rampDownSeries sin f) up.2 QuantState.init
    { silent := silentWords bufCap
      steady := steadyWords
      rampUp := padWords bufCap (packWords f.words up.1)
      rampDown := padWords bufCap (packWords f.words down.1) }
  else
    { silent := silentWords bufCap
      steady := steadyWords
      rampUp := steadyWords
      rampDown := silentWords bufCap }

end Sys2Proof.Machine
end

