-- ==== Sys2Proof/Machine/Sine.lean ====
section
/-! DEFINITION. The sine of the phase path: the reference sine of 42_waveform_fill.md R245 and
the parameter SIN of R244, which ranges over every admissible sine (log 8). -/

namespace Sys2Proof.Machine

/-- pi with 40 decimals, as a numerator over 10^40 (log 9). -/
def piNumerator : Int := 31415926535897932384626433832795028841972

/-- The sine series `x - x^3/3! + x^5/5! - …` of `x = xn / xd` in nested form with `n` terms from
index `k` on, as a fraction: `1 - x^2/((2k)(2k+1)) * (1 - …)`. -/
def sineNest (xn xd : Int) : Nat → Nat → Int × Int
  | 0, _ => (1, 1)
  | n + 1, k =>
    let inner := sineNest xn xd n (k + 1)
    let d := xd * xd * ((2 * k) * (2 * k + 1) : Nat)
    (d * inner.2 - xn * xn * inner.1, d * inner.2)

/-- The nearest integer to `num / den`, halves up, for `den > 0`. -/
def roundDiv (num den : Int) : Int := (2 * num + den) / (2 * den)

/-- The reference sine on the first quadrant, `v` from 0 to 2^30: `2^30 * sin(2*pi*v/2^32)`
rounded to nearest, from 16 terms of the series (R245, log 9). -/
def sineQuadrant (v : Nat) : Int :=
  let xn := piNumerator * v
  let xd := 10 ^ 40 * 2 ^ 31
  let s := sineNest xn xd 16 1
  max 0 (min (roundDiv (q30 * xn * s.1) (xd * s.2)) q30)

/-- `SIN_ref` (R245), the other quadrants by symmetry. -/
def sineRef (u : Word) : Int :=
  let n := u.toNat
  if n ≤ 2 ^ 30 then sineQuadrant n
  else if n ≤ 2 ^ 31 then sineQuadrant (2 ^ 31 - n)
  else if n ≤ 3 * 2 ^ 30 then -sineQuadrant (n - 2 ^ 31)
  else -sineQuadrant (2 ^ 32 - n)

/-- The parameter SIN (00_scope.md R4, 42_waveform_fill.md R244): the admissible sine of the
open choice, or the reference sine. -/
def sine (u : Word) : Int :=
  match Config.sineChoice with
  | some sin => sin.val u
  | none => sineRef u

end Sys2Proof.Machine
end

