-- ==== Sys2Proof/Machine/Solver.lean ====
section
/-! DEFINITION. The rational approximation solver (41_rational_solver.md), in exact integer
arithmetic (R214), and the calculation path that uses it (44_controller.md R353, R354, R356). -/

namespace Sys2Proof.Machine

/-- The brackets `a/b` and `c/d` of the search and its iteration count (R203). -/
structure Brackets where
  a : Int
  b : Int
  c : Int
  d : Int
  it : Nat
  deriving DecidableEq, Repr

/-- A result `(p, q, it)` of the solver (R200). -/
structure Approximation where
  p : Int
  q : Int
  it : Nat
  deriving DecidableEq, Repr

/-- The brackets 0/1 and 1/1 (R203). -/
def firstBrackets : Brackets := ⟨0, 1, 1, 1, 0⟩

/-- `X*b - a*Y`, the distance of the left bracket from the target, scaled (R211). -/
def leftDistance (x y : Int) (k : Brackets) : Int := x * k.b - k.a * y

/-- `c*Y - X*d`, the distance of the right bracket from the target, scaled (R211). -/
def rightDistance (x y : Int) (k : Brackets) : Int := k.c * y - x * k.d

/-- The number of steps taken at once, clamped as R209 says: at least 1, and no more than keep
the denominator `fixed + n * other` within `qmax`. -/
def passCount (num den qmax fixed other : Int) : Int :=
  min (max (num / den) 1) ((qmax - fixed) / other)

/-- A left pass (R206, R208): `none` when the guard ends the loop. -/
def leftPass (x y qmax : Int) (k : Brackets) : Option Brackets :=
  if rightDistance x y k = 0 then none
  else
    let n := passCount (leftDistance x y k) (rightDistance x y k) qmax k.b k.d
    some { k with a := k.a + n * k.c, b := k.b + n * k.d, it := k.it + 1 }

/-- A right pass (R207, R208). -/
def rightPass (x y qmax : Int) (k : Brackets) : Option Brackets :=
  if leftDistance x y k = 0 then none
  else
    let n := passCount (rightDistance x y k) (leftDistance x y k) qmax k.d k.b
    some { k with c := k.c + n * k.a, d := k.d + n * k.b, it := k.it + 1 }

/-- One pass of the loop, `none` when it ends (R204, R205). -/
def solverPass (x y qmax : Int) (k : Brackets) : Option Brackets :=
  if k.b + k.d > qmax then none
  else if (k.a + k.c) * y ≤ x * (k.b + k.d) then leftPass x y qmax k
  else rightPass x y qmax k

/-- The loop with at most this many passes left; the cap of R204 is 100 in all. -/
def solverSearch (x y qmax : Int) : Nat → Brackets → Brackets
  | 0, k => k
  | n + 1, k =>
    match solverPass x y qmax k with
    | none => k
    | some k' => solverSearch x y qmax n k'

/-- The closer bracket, the left one on a tie (R211). -/
def selectBracket (x y : Int) (k : Brackets) : Approximation :=
  if leftDistance x y k * k.d ≤ rightDistance x y k * k.b then ⟨k.a, k.b, k.it⟩
  else ⟨k.c, k.d, k.it⟩

/-- The iteration cap (R204). -/
def iterationCap : Nat := 100

/-- `solve(X, Y, qmax)` (R200 to R211). -/
def solve (x y qmax : Int) : Approximation :=
  if x > y then ⟨1, 1, 0⟩
  else if x < 0 then ⟨0, 1, 0⟩
  else selectBracket x y (solverSearch x y (max qmax 1) iterationCap firstBrackets)

/-- What the calculation path computes in modes 1 to 5. -/
structure Calculation where
  words : Nat
  periods : Nat
  iterations : Nat
  fexact : Nat
  deriving DecidableEq, Repr

/-- Solve, scale and achieved frequency (44_controller.md R353, R354, R356). -/
def calculate (cpuHz bufCap freq maxw : Nat) : Calculation :=
  let r := solve freq (4 * cpuHz) (min maxw bufCap)
  let m := bufCap / r.q.toNat
  let w := m * r.q.toNat
  let p := m * r.p.toNat
  ⟨w, p, r.it, 4 * cpuHz * p / w⟩

/-- The mode-0 divisor, 16.8 fixed point (44_controller.md R351). -/
def clockDivisor (cpuHz freq : Nat) : Nat :=
  min (max ((2 * 8192 * cpuHz + freq) / (2 * freq)) 0x100) 0xFFFFFF

/-- The mode-0 achieved frequency (44_controller.md R352). -/
def clockFexact (cpuHz divisor : Nat) : Nat := 8192 * cpuHz / divisor

end Sys2Proof.Machine
end

