-- ==== Sys2Proof/Machine/Sequencer.lean ====
section
/-! DEFINITION. The sequencer's steps (44_controller.md R346 to R358). -/

namespace Sys2Proof.Machine

/-- FATAL entry (R348): the pins are released, the trigger is off (10_state.md R57, log 15) and
ABORT_TIMEOUT is recorded; ABORT_REQ and DIRTY keep their values. -/
def enterFatal (s : State) : State :=
  record .abortTimeout
    { s with
      fatal := true
      seq := .idle
      outsel := .noProgram
      pinOwn := false
      armed := false }

/-- An unsuccessful poll counts, and the one that exhausts the budget is fatal (R347). -/
def pollAgain (s : State) : State :=
  if s.poll + 1 = Config.abortPollMax then enterFatal { s with poll := s.poll + 1 }
  else { s with poll := s.poll + 1 }

/-- SEQ_POLL (R346, R347), enabled when SEQ = HALTING. -/
def seqPoll (s : State) : State :=
  if s.seq = .halting then
    if s.engActive = false ∧ s.abortReq = false then { s with seq := .computing, poll := 0 }
    else pollAgain s
  else s

/-- Completion of a computation (R358). -/
def finishCompute (s : State) : State :=
  raiseEvent .applyDone { s with dirty := false, pinOwn := true, seq := .idle }

/-- The computation in mode 0 (R350 to R352, R358). The teardown of R349, OUTSEL <- NONE, is
overwritten within the step. -/
def computeClockDivider (s : State) : State :=
  let divisor := clockDivisor Config.cpuHz s.freq.toNat
  finishCompute
    { s with
      clkdiv := BitVec.ofNat 24 divisor
      fexact := BitVec.ofNat 32 (clockFexact Config.cpuHz divisor)
      outsel := .clkdiv }

/-- The fill's inputs from the registers (R355). -/
def fillInput (s : State) (c : Calculation) : FillInput where
  words := c.words
  periods := c.periods
  amp := s.amp
  dither := s.dither
  hd3amp := s.hd3amp
  hd3ph := s.hd3ph
  mode := s.mode
  seed := s.seed

/-- All words of the four buffers written (R355; 42_waveform_fill.md R275). -/
def publish (f : Buffers) (m : Memory) : Memory :=
  (((m.writeWords (bufAddr 0#2 0) f.silent).writeWords (bufAddr 1#2 0) f.steady).writeWords
    (bufAddr 2#2 0) f.rampUp).writeWords (bufAddr 3#2 0) f.rampDown

/-- The buffer the re-arm starts: steady or silent by STATE (R357). -/
def rearmBuffer : OutputState → BitVec 2
  | .transmitting => 1#2
  | .silent => 0#2

/-- The calculation a compute step makes from the registers (R353, R354, R356). -/
def calculation (s : State) : Calculation :=
  calculate Config.cpuHz Config.bufCap s.freq.toNat s.maxw.toNat

/-- The buffers a compute step fills from the registers (R355). -/
def filledBuffers (s : State) : Buffers :=
  fill sine Config.bufCap (fillInput s (calculation s))

/-- The computation in modes 1 to 5: solve, fill, publish and re-arm (R353 to R358). -/
def computeBuffers (s : State) : State :=
  let c := calculation s
  let published :=
    { s with
      mem := publish (filledBuffers s) s.mem
      nwords := BitVec.ofNat 15 c.words
      nperiods := BitVec.ofNat 15 c.periods
      approxIter := BitVec.ofNat 7 c.iterations
      filled := true
      fexact := BitVec.ofNat 32 c.fexact
      outsel := .serial }
  finishCompute { arm (rearmBuffer s.outputState) published with armed := true }

/-- SEQ_COMPUTE (R349), enabled when SEQ = COMPUTING. -/
def seqCompute (s : State) : State :=
  if s.seq = .computing then
    if s.mode = 0#3 then computeClockDivider s else computeBuffers s
  else s

end Sys2Proof.Machine
end

