-- ==== Sys2Proof/Machine/Agents.lean ====
section
/-! DEFINITION. The steps of the internal agents (30_encoding.md R120), and the transaction a
host turn issues. -/

namespace Sys2Proof.Machine

/-- One agent's turn; an agent whose step is not enabled passes (log 3). -/
def agentStep (a : AgentStep) (s : State) : Host.Outcome State Fault Refusal :=
  match a with
  | .engEmit => engEmit s
  | .engAbort => .next (engAbort s)
  | .fsmStep => .next (fsmStep s)
  | .seqPoll => .next (seqPoll s)
  | .seqCompute => .next (seqCompute s)

/-- Reset (70_reset_and_hazards.md R490): every element at its reset value, the schedule, which
stands for the world outside, goes on. -/
def resetBlock (s : State) : State := withInput s.input State.reset

/-- The transaction word the host's question asks about: the low `nbits` bits of `w`. -/
def fetchedWord (nbits w : Nat) : TransWord := BitVec.ofNat 54 (w % 2 ^ nbits)

/-- The turn the host's question places first. -/
def placeFirst (nbits w : Nat) (s : State) : State :=
  withInput (.host (fetchedWord nbits w) :: s.input) s

end Sys2Proof.Machine
end

