-- ==== Sys2Proof/Machine/Flags.lean ====
section
/-! DEFINITION. The status and error views, the interrupt line and the pins, each a function of
the state (10_state.md R23, R24; 60_exceptions.md R457; 43_output_fsm.md R322, R326 to R328). -/

namespace Sys2Proof.Machine

/-- The code of SEQ in STATUS bits 3:2 (R23, R52). -/
def Seq.bits : Seq → BitVec 2
  | .idle => 0#2
  | .halting => 1#2
  | .computing => 2#2

/-- The code of STATE in STATUS bit 4 (R23, R55). -/
def OutputState.bit : OutputState → BitVec 1
  | .silent => 0#1
  | .transmitting => 1#1

/-- The code of OUTSEL in STATUS bits 14:13 (R23, R62). -/
def OutSel.bits : OutSel → BitVec 2
  | .noProgram => 0#2
  | .serial => 1#2
  | .clkdiv => 2#2

/-- BUSY: SEQ is not IDLE (R23). -/
def busy (s : State) : Bool := s.seq != .idle

/-- The STATUS view, bit 18 first (10_state.md R23, 45_bus_access.md R392). -/
def statusView (s : State) : Word :=
  0#13 ++ BitVec.ofBool s.txen ++ BitVec.ofBool s.errValid ++ BitVec.ofBool s.fatal ++
    BitVec.ofBool s.filled ++ s.outsel.bits ++ BitVec.ofBool s.pinOwn ++
    BitVec.ofBool s.irqPend ++ BitVec.ofBool s.abortReq ++ BitVec.ofBool s.armed ++ s.engBuf ++
    BitVec.ofBool s.engActive ++ BitVec.ofBool s.ind ++ s.outputState.bit ++ s.seq.bits ++
    BitVec.ofBool (busy s) ++ BitVec.ofBool s.dirty

/-- The ERR view: VALID, OVF, 26 zero bits, CODE (10_state.md R24, 45_bus_access.md R393). -/
def errView (s : State) : Word :=
  BitVec.ofBool s.errValid ++ BitVec.ofBool s.errOvf ++ 0#26 ++ s.errCode

/-- The host interrupt output, a level (60_exceptions.md R457). -/
def irq (s : State) : Bool := s.intstat &&& s.inten != 0#4

/-- What stands on the two output pins. -/
inductive PinDrive where
  /-- The block drives neither pin; their levels are not its own (R326). -/
  | released
  /-- The block drives OUTP and OUTN with these levels. -/
  | level (outp outn : Bool)
  /-- The serializer is streaming: each emitted pair drives the pins for one sample
  (`TraceRec.pins`). -/
  | streaming
  /-- The external clock divider drives the pins with this divisor; its waveform is outside the
  block (R328). -/
  | clockDivider (divisor : BitVec 24)
  /-- The pins are owned and no peripheral program is loaded; no run reaches this (log 13). -/
  | noProgram
  deriving DecidableEq, Repr

/-- The levels one emitted pair drives for one sample: OUTP is bit 0, OUTN bit 1, when the pins
are owned by the serializer (43_output_fsm.md R322). -/
def TraceRec.pins (r : TraceRec) : Option (Bool × Bool) :=
  if r.pinOwn && decide (r.outsel = .serial) then some (r.pair.getLsbD 0, r.pair.getLsbD 1)
  else none

/-- The two output pins as a function of the state (43_output_fsm.md R322, R326, R328). -/
def State.pins (s : State) : PinDrive :=
  if s.pinOwn then
    match s.outsel with
    | .serial => if s.engActive then .streaming else .level false false
    | .clkdiv => .clockDivider s.clkdiv
    | .noProgram => .noProgram
  else .released

/-- The indicator pin, driven at all times with IND (43_output_fsm.md R327). -/
def State.indicatorPin (s : State) : Bool := s.ind

end Sys2Proof.Machine
end

