-- ==== Sys2Proof/Machine/BufferReads.lean ====
section
/-! DEFINITION. The four buffer reads (45_bus_access.md R419 to R422, R444). -/

namespace Sys2Proof.Machine

/-- The buffer read procedure, its checks in the order of R444. -/
def bufferRead (b : BitVec 2) (w : BitVec 14) (s : State) : Host.Outcome State Fault Refusal :=
  if w.toNat ≥ Config.bufCap then rejectRead .badAddr s
  else if s.seq ≠ .idle then rejectRead .busy s
  else if s.filled = false then rejectRead .notFilled s
  else answer (memRead s.mem b w.toNat) s

/-- RD_BUF_SILENT (R419). -/
def execRdBufSilent (w : BitVec 14) (s : State) : Host.Outcome State Fault Refusal :=
  bufferRead 0#2 w s

/-- RD_BUF_STEADY (R420). -/
def execRdBufSteady (w : BitVec 14) (s : State) : Host.Outcome State Fault Refusal :=
  bufferRead 1#2 w s

/-- RD_BUF_RAMPUP (R421). -/
def execRdBufRampup (w : BitVec 14) (s : State) : Host.Outcome State Fault Refusal :=
  bufferRead 2#2 w s

/-- RD_BUF_RAMPDOWN (R422). -/
def execRdBufRampdown (w : BitVec 14) (s : State) : Host.Outcome State Fault Refusal :=
  bufferRead 3#2 w s

end Sys2Proof.Machine
end

