-- ==== Sys2Proof/Machine/Commands.lean ====
section
/-! DEFINITION. The commands: writes of a command code to CMD (45_bus_access.md R442, R443). -/

namespace Sys2Proof.Machine

/-- The gate of a CMD write (R442), then the step it admits. -/
def commandGate (admitted : Host.Outcome State Fault Refusal) (s : State) :
    Host.Outcome State Fault Refusal :=
  if s.fatal then rejectWrite .fatal s
  else if s.seq ≠ .idle then rejectWrite .busy s
  else admitted

/-- What an accepted APPLY does (44_controller.md R342 to R345): nothing when not dirty, else
start a halt when the engine is armed, else go straight to the computation. -/
def applyStart (s : State) : State :=
  if s.dirty = false then s
  else if s.armed then
    { s with armed := false, abortReq := true, poll := 0, seq := .halting }
  else { s with seq := .computing }

/-- What an accepted RESTORE_PINS does (44_controller.md R359). -/
def restorePins (s : State) : State := { s with pinOwn := false }

/-- What an accepted SOLVE does (41_rational_solver.md R215). -/
def solveRegisters (s : State) : State :=
  let r := solve s.solvTnum.toInt s.solvTden.toNat s.solvQmax.toNat
  { s with
    solvP := BitVec.ofInt 32 r.p
    solvQ := BitVec.ofInt 32 r.q
    solvIter := BitVec.ofNat 7 r.it }

/-- APPLY, command code 1 (44_controller.md R342). -/
def execCmdApply (s : State) : Host.Outcome State Fault Refusal :=
  commandGate (accept (applyStart s)) s

/-- RESTORE_PINS, command code 2 (44_controller.md R359). -/
def execCmdRestorePins (s : State) : Host.Outcome State Fault Refusal :=
  commandGate (accept (restorePins s)) s

/-- SOLVE, command code 3 (41_rational_solver.md R215). -/
def execCmdSolve (s : State) : Host.Outcome State Fault Refusal :=
  commandGate (accept (solveRegisters s)) s

end Sys2Proof.Machine
end

