-- ==== Sys2Proof/Machine/Operands.lean ====
section
/-! DEFINITION. The operand forms of the register interface (30_encoding.md R119): the legal
values of each ranged register (10_state.md R29 to R36, R44) and the registers' views as 32-bit
values. Bits a register does not define read as 0 (00_scope.md R10). -/

namespace Sys2Proof.Machine

/-- The constant of ID (10_state.md R22). -/
def idValue : Word := 0x57514531#32

/-- FREQ: 100 kHz to 20 MHz in Q26.6 (R29). -/
def legalFreq (v : Word) : Bool := decide (6400000 ≤ v.toNat) && decide (v.toNat ≤ 1280000000)
/-- MODE: 0 to 5 (R30). -/
def legalMode (v : Word) : Bool := decide (v.toNat ≤ 5)
/-- AMP: 0.0 to 2.0 (R31). -/
def legalAmp (v : Word) : Bool := decide (v.toNat ≤ 0x20000)
/-- DITHER: 0.0 to 2.0 (R32, 90_conflicts.md C1). -/
def legalDither (v : Word) : Bool := decide (v.toNat ≤ 0x20000)
/-- HD3AMP: -0.5 to 0.5 (R33). -/
def legalHd3amp (v : Word) : Bool := decide (-0x8000 ≤ v.toInt) && decide (v.toInt ≤ 0x8000)
/-- MAXW: 2 to 10000 (R35, 90_conflicts.md C2). -/
def legalMaxw (v : Word) : Bool := decide (2 ≤ v.toNat) && decide (v.toNat ≤ 10000)
/-- SEED: not 0 (R36). -/
def legalSeed (v : Word) : Bool := v != 0#32
/-- SOLV_TDEN: not 0 (R44). -/
def legalTden (v : Word) : Bool := v != 0#32

/-- A narrower register as the 32-bit value a read returns. -/
def zext {n : Nat} (v : BitVec n) : Word := v.setWidth 32

/-- The low bits of a written value that a narrower register stores. -/
def store (n : Nat) (v : Word) : BitVec n := v.setWidth n

end Sys2Proof.Machine
end

