-- ==== Sys2Proof/Machine/Reads.lean ====
section
/-! DEFINITION. The 28 register reads (45_bus_access.md R391 to R418). A register read is never
rejected, in any sequencer phase and in FATAL, and changes no state (R390). -/

namespace Sys2Proof.Machine

/-- RD_ID returns the constant of ID (R391). -/
def execRdId (s : State) : Host.Outcome State Fault Refusal := answer idValue s

/-- RD_STATUS returns the STATUS view (R392). -/
def execRdStatus (s : State) : Host.Outcome State Fault Refusal := answer (statusView s) s

/-- RD_ERR returns the ERR view (R393). -/
def execRdErr (s : State) : Host.Outcome State Fault Refusal := answer (errView s) s

/-- RD_CMD returns 0; CMD has no readable state (30_encoding.md R118) (R394). -/
def execRdCmd (s : State) : Host.Outcome State Fault Refusal := answer 0#32 s

/-- RD_TXEN returns TXEN.EN (R395). -/
def execRdTxen (s : State) : Host.Outcome State Fault Refusal := answer (zext (BitVec.ofBool s.txen)) s

/-- RD_INTEN returns INTEN (R396). -/
def execRdInten (s : State) : Host.Outcome State Fault Refusal := answer (zext s.inten) s

/-- RD_INTSTAT returns INTSTAT (R397). -/
def execRdIntstat (s : State) : Host.Outcome State Fault Refusal := answer (zext s.intstat) s

/-- RD_FREQ returns FREQ (R398). -/
def execRdFreq (s : State) : Host.Outcome State Fault Refusal := answer s.freq s

/-- RD_MODE returns MODE (R399). -/
def execRdMode (s : State) : Host.Outcome State Fault Refusal := answer (zext s.mode) s

/-- RD_AMP returns AMP (R400). -/
def execRdAmp (s : State) : Host.Outcome State Fault Refusal := answer (zext s.amp) s

/-- RD_DITHER returns DITHER (R401). -/
def execRdDither (s : State) : Host.Outcome State Fault Refusal := answer (zext s.dither) s

/-- RD_HD3AMP returns HD3AMP, the raw 32 bits (R402). -/
def execRdHd3amp (s : State) : Host.Outcome State Fault Refusal := answer s.hd3amp s

/-- RD_HD3PH returns HD3PH (R403). -/
def execRdHd3ph (s : State) : Host.Outcome State Fault Refusal := answer s.hd3ph s

/-- RD_MAXW returns MAXW (R404). -/
def execRdMaxw (s : State) : Host.Outcome State Fault Refusal := answer (zext s.maxw) s

/-- RD_SEED returns SEED (R405). -/
def execRdSeed (s : State) : Host.Outcome State Fault Refusal := answer s.seed s

/-- RD_NWORDS returns NWORDS (R406). -/
def execRdNwords (s : State) : Host.Outcome State Fault Refusal := answer (zext s.nwords) s

/-- RD_NPERIODS returns NPERIODS (R407). -/
def execRdNperiods (s : State) : Host.Outcome State Fault Refusal := answer (zext s.nperiods) s

/-- RD_FEXACT returns FEXACT (R408). -/
def execRdFexact (s : State) : Host.Outcome State Fault Refusal := answer s.fexact s

/-- RD_CLKDIV returns CLKDIV (R409). -/
def execRdClkdiv (s : State) : Host.Outcome State Fault Refusal := answer (zext s.clkdiv) s

/-- RD_APPROX_ITER returns APPROX_ITER (R410). -/
def execRdApproxIter (s : State) : Host.Outcome State Fault Refusal := answer (zext s.approxIter) s

/-- RD_SOLV_TNUM returns SOLV_TNUM, the raw 32 bits (R411). -/
def execRdSolvTnum (s : State) : Host.Outcome State Fault Refusal := answer s.solvTnum s

/-- RD_SOLV_TDEN returns SOLV_TDEN (R412). -/
def execRdSolvTden (s : State) : Host.Outcome State Fault Refusal := answer s.solvTden s

/-- RD_SOLV_QMAX returns SOLV_QMAX as written (R413). -/
def execRdSolvQmax (s : State) : Host.Outcome State Fault Refusal := answer s.solvQmax s

/-- RD_SOLV_P returns SOLV_P (R414). -/
def execRdSolvP (s : State) : Host.Outcome State Fault Refusal := answer s.solvP s

/-- RD_SOLV_Q returns SOLV_Q (R415). -/
def execRdSolvQ (s : State) : Host.Outcome State Fault Refusal := answer s.solvQ s

/-- RD_SOLV_ITER returns SOLV_ITER (R416). -/
def execRdSolvIter (s : State) : Host.Outcome State Fault Refusal := answer (zext s.solvIter) s

/-- RD_PARAM_CAP returns BUF_CAP (R417). -/
def execRdParamCap (s : State) : Host.Outcome State Fault Refusal := answer (BitVec.ofNat 32 Config.bufCap) s

/-- RD_PARAM_CPU returns CPU_HZ (R418). -/
def execRdParamCpu (s : State) : Host.Outcome State Fault Refusal := answer (BitVec.ofNat 32 Config.cpuHz) s

end Sys2Proof.Machine
end

