-- ==== Sys2Proof/Machine/Rejected.lean ====
section
/-! DEFINITION. The operations whose effect is a rejection (45_bus_access.md R438 to R441). -/

namespace Sys2Proof.Machine

/-- A write to a read-only register: READONLY in every phase (R439). -/
def readOnlyWrite (s : State) : Host.Outcome State Fault Refusal := rejectWrite .readonly s

/-- A write to a buffer word: BAD_ADDR when there is no such word, else READONLY (R439). -/
def bufferWrite (w : BitVec 14) (s : State) : Host.Outcome State Fault Refusal :=
  if w.toNat ≥ Config.bufCap then rejectWrite .badAddr s else rejectWrite .readonly s

/-- WR_RO_ID (R439). -/
def execWrRoId (s : State) : Host.Outcome State Fault Refusal := readOnlyWrite s

/-- WR_RO_STATUS (R439). -/
def execWrRoStatus (s : State) : Host.Outcome State Fault Refusal := readOnlyWrite s

/-- WR_RO_NWORDS (R439). -/
def execWrRoNwords (s : State) : Host.Outcome State Fault Refusal := readOnlyWrite s

/-- WR_RO_NPERIODS (R439). -/
def execWrRoNperiods (s : State) : Host.Outcome State Fault Refusal := readOnlyWrite s

/-- WR_RO_FEXACT (R439). -/
def execWrRoFexact (s : State) : Host.Outcome State Fault Refusal := readOnlyWrite s

/-- WR_RO_CLKDIV (R439). -/
def execWrRoClkdiv (s : State) : Host.Outcome State Fault Refusal := readOnlyWrite s

/-- WR_RO_APPROX_ITER (R439). -/
def execWrRoApproxIter (s : State) : Host.Outcome State Fault Refusal := readOnlyWrite s

/-- WR_RO_SOLV_P (R439). -/
def execWrRoSolvP (s : State) : Host.Outcome State Fault Refusal := readOnlyWrite s

/-- WR_RO_SOLV_Q (R439). -/
def execWrRoSolvQ (s : State) : Host.Outcome State Fault Refusal := readOnlyWrite s

/-- WR_RO_SOLV_ITER (R439). -/
def execWrRoSolvIter (s : State) : Host.Outcome State Fault Refusal := readOnlyWrite s

/-- WR_RO_PARAM_CAP (R439). -/
def execWrRoParamCap (s : State) : Host.Outcome State Fault Refusal := readOnlyWrite s

/-- WR_RO_PARAM_CPU (R439). -/
def execWrRoParamCpu (s : State) : Host.Outcome State Fault Refusal := readOnlyWrite s

/-- WR_RO_BUF_SILENT (R439). -/
def execWrRoBufSilent (w : BitVec 14) (s : State) : Host.Outcome State Fault Refusal :=
  bufferWrite w s

/-- WR_RO_BUF_STEADY (R439). -/
def execWrRoBufSteady (w : BitVec 14) (s : State) : Host.Outcome State Fault Refusal :=
  bufferWrite w s

/-- WR_RO_BUF_RAMPUP (R439). -/
def execWrRoBufRampup (w : BitVec 14) (s : State) : Host.Outcome State Fault Refusal :=
  bufferWrite w s

/-- WR_RO_BUF_RAMPDOWN (R439). -/
def execWrRoBufRampdown (w : BitVec 14) (s : State) : Host.Outcome State Fault Refusal :=
  bufferWrite w s

/-- CMD_RESERVED: after the gate, BAD_CMD, whatever value was written (R438). -/
def execCmdReserved (_wdata : Word) (s : State) : Host.Outcome State Fault Refusal :=
  commandGate (rejectWrite .badCmd s) s

/-- MISALIGNED: ALIGN, whatever the size and address (R440). -/
def execMisaligned (we : Bool) (_size : BitVec 2) (_addr : BusAddr) (s : State) :
    Host.Outcome State Fault Refusal :=
  rejectAccess we .align s

/-- UNMAPPED: BAD_ADDR, whatever the address (R441). -/
def execUnmapped (we : Bool) (_addr : BusAddr) (s : State) :
    Host.Outcome State Fault Refusal :=
  rejectAccess we .badAddr s

end Sys2Proof.Machine
end

