-- ==== Sys2Proof/Machine/Writes.lean ====
section
/-! DEFINITION. The 15 register writes (45_bus_access.md R423 to R437). -/

namespace Sys2Proof.Machine

/-- A write to a configuration register: the gate of R442, then the legal range, else the new
value with DIRTY set (44_controller.md R340). -/
def configWrite (legal : Bool) (written : State) (s : State) :
    Host.Outcome State Fault Refusal :=
  if s.seq ≠ .idle then rejectWrite .busy s
  else if legal then accept { written with dirty := true }
  else rejectWrite .range s

/-- WR_ERR: bit 31 clears the whole of ERR, the other bits are ignored (R423). -/
def execWrErr (wdata : Word) (s : State) : Host.Outcome State Fault Refusal :=
  if wdata.getLsbD 31 then
    accept { s with errCode := 0#4, errOvf := false, errValid := false }
  else accept s

/-- WR_TXEN: bit 0 is stored, in every phase (R424). -/
def execWrTxen (wdata : Word) (s : State) : Host.Outcome State Fault Refusal :=
  accept { s with txen := wdata.getLsbD 0 }

/-- WR_INTEN: bits 3:0 are stored (R425). -/
def execWrInten (wdata : Word) (s : State) : Host.Outcome State Fault Refusal :=
  accept { s with inten := store 4 wdata }

/-- WR_INTSTAT: each 1 in bits 3:0 clears its bit (R426). -/
def execWrIntstat (wdata : Word) (s : State) : Host.Outcome State Fault Refusal :=
  accept { s with intstat := s.intstat &&& ~~~(store 4 wdata) }

/-- WR_FREQ (R427). -/
def execWrFreq (wdata : Word) (s : State) : Host.Outcome State Fault Refusal :=
  configWrite (legalFreq wdata) { s with freq := wdata } s

/-- WR_MODE (R428). -/
def execWrMode (wdata : Word) (s : State) : Host.Outcome State Fault Refusal :=
  configWrite (legalMode wdata) { s with mode := store 3 wdata } s

/-- WR_AMP (R429). -/
def execWrAmp (wdata : Word) (s : State) : Host.Outcome State Fault Refusal :=
  configWrite (legalAmp wdata) { s with amp := store 18 wdata } s

/-- WR_DITHER (R430). -/
def execWrDither (wdata : Word) (s : State) : Host.Outcome State Fault Refusal :=
  configWrite (legalDither wdata) { s with dither := store 18 wdata } s

/-- WR_HD3AMP (R431). -/
def execWrHd3amp (wdata : Word) (s : State) : Host.Outcome State Fault Refusal :=
  configWrite (legalHd3amp wdata) { s with hd3amp := wdata } s

/-- WR_HD3PH (R432); every value is legal. -/
def execWrHd3ph (wdata : Word) (s : State) : Host.Outcome State Fault Refusal :=
  configWrite true { s with hd3ph := wdata } s

/-- WR_MAXW (R433). -/
def execWrMaxw (wdata : Word) (s : State) : Host.Outcome State Fault Refusal :=
  configWrite (legalMaxw wdata) { s with maxw := store 14 wdata } s

/-- WR_SEED (R434). -/
def execWrSeed (wdata : Word) (s : State) : Host.Outcome State Fault Refusal :=
  configWrite (legalSeed wdata) { s with seed := wdata } s

/-- WR_SOLV_TNUM: not gated, every value legal (R435). -/
def execWrSolvTnum (wdata : Word) (s : State) : Host.Outcome State Fault Refusal :=
  accept { s with solvTnum := wdata }

/-- WR_SOLV_TDEN: not gated, 0 is rejected (R436). -/
def execWrSolvTden (wdata : Word) (s : State) : Host.Outcome State Fault Refusal :=
  if legalTden wdata then accept { s with solvTden := wdata } else rejectWrite .range s

/-- WR_SOLV_QMAX: not gated, every value legal (R437). -/
def execWrSolvQmax (wdata : Word) (s : State) : Host.Outcome State Fault Refusal :=
  accept { s with solvQmax := wdata }

end Sys2Proof.Machine
end

