-- ==== Sys2Proof/Machine/Dispatch.lean ====
section
/-! DEFINITION. The meaning of each host operation: one arm per constructor of Instr. -/

namespace Sys2Proof.Machine

/-- The host step of an operation. -/
def exec (i : Instr) (s : State) : Host.Outcome State Fault Refusal :=
  match i with
  | .rdId => Sys2Proof.Machine.execRdId s
  | .rdStatus => Sys2Proof.Machine.execRdStatus s
  | .rdErr => Sys2Proof.Machine.execRdErr s
  | .rdCmd => Sys2Proof.Machine.execRdCmd s
  | .rdTxen => Sys2Proof.Machine.execRdTxen s
  | .rdInten => Sys2Proof.Machine.execRdInten s
  | .rdIntstat => Sys2Proof.Machine.execRdIntstat s
  | .rdFreq => Sys2Proof.Machine.execRdFreq s
  | .rdMode => Sys2Proof.Machine.execRdMode s
  | .rdAmp => Sys2Proof.Machine.execRdAmp s
  | .rdDither => Sys2Proof.Machine.execRdDither s
  | .rdHd3amp => Sys2Proof.Machine.execRdHd3amp s
  | .rdHd3ph => Sys2Proof.Machine.execRdHd3ph s
  | .rdMaxw => Sys2Proof.Machine.execRdMaxw s
  | .rdSeed => Sys2Proof.Machine.execRdSeed s
  | .rdNwords => Sys2Proof.Machine.execRdNwords s
  | .rdNperiods => Sys2Proof.Machine.execRdNperiods s
  | .rdFexact => Sys2Proof.Machine.execRdFexact s
  | .rdClkdiv => Sys2Proof.Machine.execRdClkdiv s
  | .rdApproxIter => Sys2Proof.Machine.execRdApproxIter s
  | .rdSolvTnum => Sys2Proof.Machine.execRdSolvTnum s
  | .rdSolvTden => Sys2Proof.Machine.execRdSolvTden s
  | .rdSolvQmax => Sys2Proof.Machine.execRdSolvQmax s
  | .rdSolvP => Sys2Proof.Machine.execRdSolvP s
  | .rdSolvQ => Sys2Proof.Machine.execRdSolvQ s
  | .rdSolvIter => Sys2Proof.Machine.execRdSolvIter s
  | .rdParamCap => Sys2Proof.Machine.execRdParamCap s
  | .rdParamCpu => Sys2Proof.Machine.execRdParamCpu s
  | .wrRoId => Sys2Proof.Machine.execWrRoId s
  | .wrRoStatus => Sys2Proof.Machine.execWrRoStatus s
  | .wrErr wdata => Sys2Proof.Machine.execWrErr wdata s
  | .cmdApply => Sys2Proof.Machine.execCmdApply s
  | .cmdRestorePins => Sys2Proof.Machine.execCmdRestorePins s
  | .cmdSolve => Sys2Proof.Machine.execCmdSolve s
  | .wrTxen wdata => Sys2Proof.Machine.execWrTxen wdata s
  | .wrInten wdata => Sys2Proof.Machine.execWrInten wdata s
  | .wrIntstat wdata => Sys2Proof.Machine.execWrIntstat wdata s
  | .wrFreq wdata => Sys2Proof.Machine.execWrFreq wdata s
  | .wrMode wdata => Sys2Proof.Machine.execWrMode wdata s
  | .wrAmp wdata => Sys2Proof.Machine.execWrAmp wdata s
  | .wrDither wdata => Sys2Proof.Machine.execWrDither wdata s
  | .wrHd3amp wdata => Sys2Proof.Machine.execWrHd3amp wdata s
  | .wrHd3ph wdata => Sys2Proof.Machine.execWrHd3ph wdata s
  | .wrMaxw wdata => Sys2Proof.Machine.execWrMaxw wdata s
  | .wrSeed wdata => Sys2Proof.Machine.execWrSeed wdata s
  | .wrRoNwords => Sys2Proof.Machine.execWrRoNwords s
  | .wrRoNperiods => Sys2Proof.Machine.execWrRoNperiods s
  | .wrRoFexact => Sys2Proof.Machine.execWrRoFexact s
  | .wrRoClkdiv => Sys2Proof.Machine.execWrRoClkdiv s
  | .wrRoApproxIter => Sys2Proof.Machine.execWrRoApproxIter s
  | .wrSolvTnum wdata => Sys2Proof.Machine.execWrSolvTnum wdata s
  | .wrSolvTden wdata => Sys2Proof.Machine.execWrSolvTden wdata s
  | .wrSolvQmax wdata => Sys2Proof.Machine.execWrSolvQmax wdata s
  | .wrRoSolvP => Sys2Proof.Machine.execWrRoSolvP s
  | .wrRoSolvQ => Sys2Proof.Machine.execWrRoSolvQ s
  | .wrRoSolvIter => Sys2Proof.Machine.execWrRoSolvIter s
  | .wrRoParamCap => Sys2Proof.Machine.execWrRoParamCap s
  | .wrRoParamCpu => Sys2Proof.Machine.execWrRoParamCpu s
  | .rdBufSilent w => Sys2Proof.Machine.execRdBufSilent w s
  | .rdBufSteady w => Sys2Proof.Machine.execRdBufSteady w s
  | .rdBufRampup w => Sys2Proof.Machine.execRdBufRampup w s
  | .rdBufRampdown w => Sys2Proof.Machine.execRdBufRampdown w s
  | .wrRoBufSilent w => Sys2Proof.Machine.execWrRoBufSilent w s
  | .wrRoBufSteady w => Sys2Proof.Machine.execWrRoBufSteady w s
  | .wrRoBufRampup w => Sys2Proof.Machine.execWrRoBufRampup w s
  | .wrRoBufRampdown w => Sys2Proof.Machine.execWrRoBufRampdown w s
  | .cmdReserved wdata => Sys2Proof.Machine.execCmdReserved wdata s
  | .misaligned we size addr => Sys2Proof.Machine.execMisaligned we size addr s
  | .unmapped we addr => Sys2Proof.Machine.execUnmapped we addr s

end Sys2Proof.Machine
end

