-- ==== Sys2Proof/Machine/Step.lean ====
section
/-! DEFINITION. One step of the block: the next turn of the schedule is taken, as one atomic step
(00_scope.md R2, 20_memory.md R85, R89). -/

namespace Sys2Proof.Machine

/-- One step. A schedule with no turn left changes nothing (log 3). -/
def step (s : State) : Host.Outcome State Fault Refusal :=
  match s.input with
  | [] => .next s
  | .host tw :: rest => exec (decodeTw tw) (withInput rest s)
  | .agent a :: rest => agentStep a (withInput rest s)
  | .reset :: rest => .next (resetBlock (withInput rest s))

/-- `s` with the host about to issue the transaction in the `nbits` bits `w` (log 2). -/
def State.withFetchWord (s : State) (nbits w : Nat) : State := placeFirst nbits w s

end Sys2Proof.Machine
end

