-- ==== Sys2Proof/Safety.lean ====
section
/-! DEFINITION. What a safe run is, in the terms the statements use: the invariants of
10_state.md R68, the legal register values, the keying rule, the buffer contents, and the samples
a buffer holds, and fair executions. -/

namespace Sys2Proof.Machine

/-- The control invariants: 10_state.md R68 (a) to (g), what FATAL entails (60_exceptions.md
R469), who may own a pending abort, and the poll budget (10_state.md R53). -/
structure ControlInv (s : State) : Prop where
  /-- R68 (a). -/
  computing_engine_idle : s.seq = .computing → s.engActive = false
  /-- R68 (b). -/
  armed_ready : s.armed = true → s.filled = true ∧ s.outsel = .serial ∧ 1 ≤ s.nwords.toNat
  /-- R68 (c). -/
  unarmed_engine_idle :
    s.armed = false → s.seq = .idle → s.fatal = false → s.engActive = false
  /-- R68 (d). -/
  active_word_played : s.engActive = true → s.engWord.toNat < s.nwords.toNat
  /-- R68 (e). -/
  periods_words_capacity : s.nperiods.toNat ≤ s.nwords.toNat ∧ s.nwords.toNat ≤ Config.bufCap
  /-- R68 (f), and the same while computing. -/
  busy_unarmed : s.seq ≠ .idle → s.armed = false
  /-- R68 (g). -/
  indicator_follows_state : s.ind = true ↔ s.outputState = .transmitting
  /-- An abort is pending only in a halt or after one failed (44_controller.md R344, R346, R348). -/
  abort_owner : s.abortReq = true → s.seq = .halting ∨ s.fatal = true
  /-- FATAL (R348, R469). -/
  fatal_degraded : s.fatal = true →
    s.seq = .idle ∧ s.armed = false ∧ s.pinOwn = false ∧ s.outsel = .noProgram
  /-- R53, R347. -/
  poll_budget : s.poll ≤ Config.abortPollMax ∧ (s.seq = .halting → s.poll < Config.abortPollMax)

/-- The keying rule (43_output_fsm.md R308): the engine plays steady or ramp-up only while STATE
is Transmitting, silent or ramp-down only while STATE is Silent. -/
def KeyingInv (s : State) : Prop :=
  s.engActive = true →
    ((s.engBuf = 1#2 ∨ s.engBuf = 2#2) ↔ s.outputState = .transmitting)

/-- Every ranged register holds a legal value (10_state.md R24, R29 to R36, R42, R44, R47, R48). -/
structure RegisterInv (s : State) : Prop where
  freq_legal : 6400000 ≤ s.freq.toNat ∧ s.freq.toNat ≤ 1280000000
  mode_legal : s.mode.toNat ≤ 5
  amp_legal : s.amp.toNat ≤ 0x20000
  dither_legal : s.dither.toNat ≤ 0x20000
  hd3amp_legal : -0x8000 ≤ s.hd3amp.toInt ∧ s.hd3amp.toInt ≤ 0x8000
  maxw_legal : 2 ≤ s.maxw.toNat ∧ s.maxw.toNat ≤ 10000
  seed_legal : s.seed ≠ 0#32
  tden_legal : s.solvTden ≠ 0#32
  solved_ratio : s.solvQ ≠ 0#32 ∧ s.solvP.toNat ≤ s.solvQ.toNat
  iterations_capped : s.approxIter.toNat ≤ 100 ∧ s.solvIter.toNat ≤ 100
  no_error_clear : s.errValid = false → s.errCode = 0#4 ∧ s.errOvf = false
  error_code_named : s.errValid = true → 1 ≤ s.errCode.toNat ∧ s.errCode.toNat ≤ 9

/-- The address holds a byte of a buffer word (20_memory.md R86). -/
def IsBufferByte (a : Nat) : Prop :=
  ∃ (b : BitVec 2) (w k : Nat), w < Config.bufCap ∧ k < 4 ∧ a = bufAddr b w + k

/-- The buffer contents: only buffer bytes are listed, and once a fill has completed the silent
buffer is zero (42_waveform_fill.md R270) and so is every tail (R274). -/
structure BufferInv (s : State) : Prop where
  canonical : s.mem.wf = true
  only_buffers : ∀ c ∈ s.mem, IsBufferByte c.1
  silent_zero : s.filled = true → ∀ w, w < Config.bufCap → memRead s.mem 0#2 w = 0#32
  tail_zero : s.filled = true →
    ∀ (b : BitVec 2) (w : Nat), s.nwords.toNat ≤ w → w < Config.bufCap →
      memRead s.mem b w = 0#32

/-- The sample codes of the first `n` words of buffer `b`, in the order they are played
(42_waveform_fill.md R269). -/
def bufferSamples (m : Memory) (b : BitVec 2) (n : Nat) : List (BitVec 2) :=
  (List.range (16 * n)).map fun i =>
    ((memRead m b (i / 16)) >>> (2 * (i % 16))).setWidth 2

/-- The turn the next step takes. -/
def nextTurn (s : State) : Option Turn := s.input.head?

/-- The register table of 30_encoding.md R113 but for CMD: offset, read operation, write
operation. -/
def registerTable : List (BusAddr × Instr × (Word → Instr)) :=
  [(0x000#19, .rdId, fun _ => .wrRoId),
   (0x004#19, .rdStatus, fun _ => .wrRoStatus),
   (0x008#19, .rdErr, .wrErr),
   (0x010#19, .rdTxen, .wrTxen),
   (0x014#19, .rdInten, .wrInten),
   (0x018#19, .rdIntstat, .wrIntstat),
   (0x020#19, .rdFreq, .wrFreq),
   (0x024#19, .rdMode, .wrMode),
   (0x028#19, .rdAmp, .wrAmp),
   (0x02C#19, .rdDither, .wrDither),
   (0x030#19, .rdHd3amp, .wrHd3amp),
   (0x034#19, .rdHd3ph, .wrHd3ph),
   (0x038#19, .rdMaxw, .wrMaxw),
   (0x03C#19, .rdSeed, .wrSeed),
   (0x040#19, .rdNwords, fun _ => .wrRoNwords),
   (0x044#19, .rdNperiods, fun _ => .wrRoNperiods),
   (0x048#19, .rdFexact, fun _ => .wrRoFexact),
   (0x04C#19, .rdClkdiv, fun _ => .wrRoClkdiv),
   (0x050#19, .rdApproxIter, fun _ => .wrRoApproxIter),
   (0x060#19, .rdSolvTnum, .wrSolvTnum),
   (0x064#19, .rdSolvTden, .wrSolvTden),
   (0x068#19, .rdSolvQmax, .wrSolvQmax),
   (0x06C#19, .rdSolvP, fun _ => .wrRoSolvP),
   (0x070#19, .rdSolvQ, fun _ => .wrRoSolvQ),
   (0x074#19, .rdSolvIter, fun _ => .wrRoSolvIter),
   (0x078#19, .rdParamCap, fun _ => .wrRoParamCap),
   (0x07C#19, .rdParamCpu, fun _ => .wrRoParamCpu)]

/-- The writes whose WDATA is used (30_encoding.md R119, R115): for every other operation it is
ignored. -/
def usesData : Instr → Bool
  | .wrErr _ | .wrTxen _ | .wrInten _ | .wrIntstat _ | .wrFreq _ | .wrMode _ | .wrAmp _
  | .wrDither _ | .wrHd3amp _ | .wrHd3ph _ | .wrMaxw _ | .wrSeed _ | .wrSolvTnum _
  | .wrSolvTden _ | .wrSolvQmax _ | .cmdReserved _ | .cmdApply | .cmdRestorePins | .cmdSolve =>
    true
  | _ => false

/-- The read of word `w` of buffer `b`. -/
def bufferReadOp (b : BitVec 2) (w : BitVec 14) : Instr :=
  if b = 0#2 then .rdBufSilent w
  else if b = 1#2 then .rdBufSteady w
  else if b = 2#2 then .rdBufRampup w
  else .rdBufRampdown w

/-- The write to word `w` of buffer `b`. -/
def bufferWriteOp (b : BitVec 2) (w : BitVec 14) : Instr :=
  if b = 0#2 then .wrRoBufSilent w
  else if b = 1#2 then .wrRoBufSteady w
  else if b = 2#2 then .wrRoBufRampup w
  else .wrRoBufRampdown w

/-- The words of buffer `b` in a fill's result (44_controller.md R355). -/
def Buffers.words (f : Buffers) (b : BitVec 2) : List Word :=
  if b = 0#2 then f.silent
  else if b = 1#2 then f.steady
  else if b = 2#2 then f.rampUp
  else f.rampDown

/-- Equal but for what the buffers hold. -/
def EqualButBuffers (s t : State) : Prop := { s with mem := [] } = { t with mem := [] }

/-- The state after a rejected write: the error recorded, nothing returned (R452). -/
def rejectedWrite (code : ErrorCode) (s : State) : State := respond none (record code s)

/-- The state after a rejected read: the error recorded, 0 returned (R452). -/
def rejectedRead (code : ErrorCode) (s : State) : State := respond (some 0#32) (record code s)

/-- The agent's step is enabled (30_encoding.md R120: R321, R325, R300, R346, R349). -/
def enabled : AgentStep → State → Prop
  | .engEmit, s => s.engActive = true
  | .engAbort, s => s.abortReq = true
  | .fsmStep, s => s.irqPend = true
  | .seqPoll, s => s.seq = .halting
  | .seqCompute, s => s.seq = .computing

/-- An endless execution: the turns taken and the states they lead through (00_scope.md R2). -/
structure Execution where
  turns : Nat → Turn
  states : Nat → State
  steps : ∀ n, step { states n with input := [turns n] } = .next (states (n + 1))

/-- Weak fairness (00_scope.md R3): an agent whose step stays enabled takes it in the end. -/
def WeaklyFair (e : Execution) : Prop :=
  ∀ (a : AgentStep) (n : Nat), (∀ m, n ≤ m → enabled a (e.states m)) →
    ∃ m, n ≤ m ∧ e.turns m = .agent a

/-- The eight configuration writes (44_controller.md R340). -/
def isConfigWrite : Instr → Bool
  | .wrFreq _ | .wrMode _ | .wrAmp _ | .wrDither _ | .wrHd3amp _ | .wrHd3ph _ | .wrMaxw _
  | .wrSeed _ => true
  | _ => false

end Sys2Proof.Machine
end

