-- ==== Sys2Proof/Certificates/Slice0/Obligations.lean ====
section
/-! DEFINITION. The statements about the model. "log <n>" is notes/assumptions/<n>.md. -/

open Sys2Proof Sys2Proof.Machine

/-! ## Encoding -/

/-- Every well-formed operation's word decodes to it, at every operand value (30_encoding.md
R110 to R116). -/
def Obligations.EncodedOperationsDecodeBack : Prop :=
  ∀ i : Instr, i.wf = true → decodeTw (encode i) = i

/-- Every 54-bit word decodes to a well-formed operation, whose own word agrees with it in WE,
SIZE, ADDR and, where the operation uses WDATA, in WDATA: decoding drops only ignored bits
(R111, R112, R117). -/
def Obligations.EveryWordDecodesToAWellFormedOperation : Prop :=
  ∀ tw : TransWord,
    (decodeTw tw).wf = true ∧
      twWe (encode (decodeTw tw)) = twWe tw ∧
      twSize (encode (decodeTw tw)) = twSize tw ∧
      twAddr (encode (decodeTw tw)) = twAddr tw ∧
      (usesData (decodeTw tw) = true → twData (encode (decodeTw tw)) = twData tw)

/-- Every row of the register table decodes to its read and its write, whatever WDATA is, and
the CMD row to its read and its three commands (R113, R115). -/
def Obligations.RegisterTableRowsDecode : Prop :=
  (∀ row ∈ registerTable, ∀ wdata : Word,
      decodeTw (twOf false sizeWord row.1 wdata) = row.2.1 ∧
        decodeTw (twOf true sizeWord row.1 wdata) = row.2.2 wdata) ∧
    (∀ wdata : Word, decodeTw (twOf false sizeWord 0x00C#19 wdata) = .rdCmd) ∧
    decodeTw (twOf true sizeWord 0x00C#19 1#32) = .cmdApply ∧
    decodeTw (twOf true sizeWord 0x00C#19 2#32) = .cmdRestorePins ∧
    decodeTw (twOf true sizeWord 0x00C#19 3#32) = .cmdSolve

/-- An aligned word access with `addr[18:16]` from 1 to 4 is the buffer access of that window,
its word index `addr[15:2]`, whatever WDATA is (R111, R114). -/
def Obligations.BufferRowsDecode : Prop :=
  ∀ (b : BitVec 2) (w : BitVec 14) (wdata : Word),
    decodeTw (twOf false sizeWord ((b.setWidth 3 + 1#3) ++ w ++ 0#2) wdata) = bufferReadOp b w ∧
      decodeTw (twOf true sizeWord ((b.setWidth 3 + 1#3) ++ w ++ 0#2) wdata) = bufferWriteOp b w

/-- The order of decoding: size and alignment first, then the tables, then a CMD write of no
command code, then UNMAPPED, which is what every address outside the map is (R112, R117;
20_memory.md R86). -/
def Obligations.DecodingFollowsTheStatedOrder : Prop :=
  ∀ tw : TransWord,
    (¬(twSize tw = sizeWord ∧ addrLow (twAddr tw) = 0#2) →
        decodeTw tw = .misaligned (twWe tw) (twSize tw) (twAddr tw)) ∧
      (twSize tw = sizeWord → twWe tw = true → twAddr tw = 0x0000C#19 →
        twData tw ≠ 1#32 → twData tw ≠ 2#32 → twData tw ≠ 3#32 →
        decodeTw tw = .cmdReserved (twData tw)) ∧
      (twSize tw = sizeWord → addrLow (twAddr tw) = 0#2 → mappedAddr (twAddr tw) = false →
        decodeTw tw = .unmapped (twWe tw) (twAddr tw)) ∧
      (twSize tw = sizeWord → addrLow (twAddr tw) = 0#2 → mappedAddr (twAddr tw) = true →
        ∀ (we : Bool) (addr : BusAddr), decodeTw tw ≠ .unmapped we addr)

/-- Transaction words written out in 95_test_vectors.md decode to the operations named there. -/
def Obligations.SpecWordsDecode : Prop :=
  decodeTw 0x0010000400000000#54 = .rdStatus ∧
    decodeTw 0x0030002001E84800#54 = .wrFreq 32000000#32 ∧
    decodeTw 0x0030000C00000001#54 = .cmdApply ∧
    decodeTw 0x0030000C00000000#54 = .cmdReserved 0#32 ∧
    decodeTw 0x0030004000000005#54 = .wrRoNwords ∧
    decodeTw 0x0012000400000000#54 = .rdBufSteady 1#14 ∧
    decodeTw 0x0032000800000000#54 = .wrRoBufSteady 2#14 ∧
    decodeTw 0x0008000400000000#54 = .misaligned false 1#2 0x4#19 ∧
    decodeTw 0x0010001C00000000#54 = .unmapped false 0x1C#19

/-- The seven bytes of a transaction word, least significant first, decode to its operation, and
bytes whose value has a bit above bit 53 are refused by name (the model's own byte layout,
log 14). -/
def Obligations.TransactionBytesDecode : Prop :=
  (∀ tw : TransWord, decode (leBytes 7 tw.toNat) = .ok (decodeTw tw)) ∧
    ∀ bytes : List Byte, 2 ^ 54 ≤ leValue bytes → decode bytes = .error .notATransactionWord

/-! ## Steps -/

/-- A host turn runs the operation its word decodes to, the turn used up (20_memory.md R85; the
schedule is the model's, log 2). -/
def Obligations.StepRunsTheDecodedTransaction : Prop :=
  (∀ (s : State) (tw : TransWord) (rest : List Turn) (i : Instr),
      s.input = .host tw :: rest → decodeTw tw = i → step s = exec i { s with input := rest }) ∧
    ∀ (s : State) (nbits w : Nat), w < 2 ^ 54 → w < 2 ^ nbits →
      step (s.withFetchWord nbits w) = exec (decodeTw (BitVec.ofNat 54 w)) s

/-- An agent's turn takes that agent's step, an agent whose step is not enabled passes, a reset
turn resets everything but the schedule, and an empty schedule changes nothing (30_encoding.md
R120, 70_reset_and_hazards.md R490; logs 2 and 3). That a reset leaves the buffers empty is the
model's choice (log 4; R491 leaves their content open). -/
def Obligations.StepTakesAgentAndResetTurns : Prop :=
  ∀ (s : State) (rest : List Turn),
    (∀ a, s.input = .agent a :: rest → step s = agentStep a { s with input := rest }) ∧
      (s.input = .reset :: rest → step s = .next { State.reset with input := rest }) ∧
      (s.input = [] → step s = .next s) ∧
      (s.engActive = false → agentStep .engEmit s = .next s) ∧
      (s.abortReq = false → agentStep .engAbort s = .next s) ∧
      (s.irqPend = false → agentStep .fsmStep s = .next s) ∧
      (s.seq ≠ .halting → agentStep .seqPoll s = .next s) ∧
      (s.seq ≠ .computing → agentStep .seqCompute s = .next s)

/-- In every state that meets the control invariants the next step has a next state: the block
never traps or halts, and the engine never reads a word that does not exist (60_exceptions.md
R450, 20_memory.md R84; log 5). -/
def Obligations.StepNeverStops : Prop :=
  ∀ s : State, ControlInv s → ∃ t, step s = .next t

/-- Every step keeps the control invariants (10_state.md R68, R53; 60_exceptions.md R469). The
clause on who may own a pending abort is read from 44_controller.md R344, R346 and R348. -/
def Obligations.StepKeepsControlInvariants : Prop :=
  ∀ s t : State, ControlInv s → step s = .next t → ControlInv t

/-- The state after reset meets every invariant (the empty buffers are the model's choice,
log 4). -/
def Obligations.ResetMeetsEveryInvariant : Prop :=
  ControlInv State.reset ∧ KeyingInv State.reset ∧ RegisterInv State.reset ∧
    BufferInv State.reset

/-- Every step keeps the keying rule: the engine plays steady or ramp-up only while STATE is
Transmitting, silent or ramp-down only while it is Silent (43_output_fsm.md R308). -/
def Obligations.StepKeepsKeyingRule : Prop :=
  ∀ s t : State, KeyingInv s → step s = .next t → KeyingInv t

/-- Every step keeps every ranged register at a legal value (10_state.md R24, R29 to R36, R42,
R44, R47, R48). -/
def Obligations.StepKeepsLegalRegisters : Prop :=
  ∀ s t : State, RegisterInv s → step s = .next t → RegisterInv t

/-- Every step keeps the buffer memory in its canonical form (the model's own, log 4). -/
def Obligations.StepKeepsMemoryCanonical : Prop :=
  ∀ s t : State, s.mem.wf = true → step s = .next t → t.mem.wf = true

/-- Every step keeps the buffer contents: only buffer bytes are listed (the model's own form,
log 4), and after a fill the silent buffer and every tail are zero (42_waveform_fill.md R270,
R274; 20_memory.md R90). -/
def Obligations.StepKeepsBufferContents : Prop :=
  ∀ s t : State, BufferInv s → step s = .next t → BufferInv t

/-- The reset values that 70_reset_and_hazards.md R490 and R492 name. -/
def Obligations.ResetHoldsStatedValues : Prop :=
  let s := State.reset
  (s.dirty = true ∧ s.seq = .idle ∧ s.poll = 0 ∧ s.fatal = false ∧ s.outputState = .silent ∧
      s.ind = false ∧ s.armed = false ∧ s.abortReq = false ∧ s.irqPend = false) ∧
    (s.engActive = false ∧ s.engBuf = 0#2 ∧ s.engWord = 0#15 ∧ s.engSlot = 0#4 ∧
      s.pinOwn = false ∧ s.outsel = .noProgram ∧ s.filled = false ∧ s.trace = []) ∧
    (s.txen = false ∧ s.errCode = 0#4 ∧ s.errOvf = false ∧ s.errValid = false ∧
      s.intstat = 0#4 ∧ s.inten = 0#4) ∧
    (s.freq = 6400000#32 ∧ s.mode = 5#3 ∧ s.amp = 0x10000#18 ∧ s.dither = 0#18 ∧
      s.hd3amp = 0#32 ∧ s.hd3ph = 0#32 ∧ s.maxw = 10000#14 ∧ s.seed = 0x9E3779B9#32) ∧
    (s.nwords = 0#15 ∧ s.nperiods = 0#15 ∧ s.fexact = 0#32 ∧ s.clkdiv = 0#24 ∧
      s.approxIter = 0#7) ∧
    (s.solvTnum = 0#32 ∧ s.solvTden = 1#32 ∧ s.solvQmax = 1#32 ∧ s.solvP = 0#32 ∧
      s.solvQ = 1#32 ∧ s.solvIter = 0#7)

/-- FATAL is entered only by the halt poll that exhausts the budget, and left only by reset
(10_state.md R54). -/
def Obligations.FatalIsEnteredByTimeoutAndLeftByReset : Prop :=
  ∀ s t : State, step s = .next t →
    (s.fatal = false → t.fatal = true →
        nextTurn s = some (.agent .seqPoll) ∧ s.seq = .halting ∧
          (s.engActive = true ∨ s.abortReq = true) ∧ s.poll + 1 = Config.abortPollMax) ∧
      (s.fatal = true → t.fatal = false → nextTurn s = some .reset)

/-- No host transaction touches a buffer byte, STATE, IND, the engine position, the trace or any
result of a computation (20_memory.md R90, R92). -/
def Obligations.HostTransactionsLeaveOutputSideAlone : Prop :=
  ∀ (i : Instr) (s t : State), exec i s = .next t →
    (∀ a, t.mem.readByte a = s.mem.readByte a) ∧
      (t.outputState = s.outputState ∧ t.ind = s.ind ∧ t.engActive = s.engActive ∧
        t.engBuf = s.engBuf ∧ t.engWord = s.engWord ∧ t.engSlot = s.engSlot ∧
        t.irqPend = s.irqPend ∧ t.trace = s.trace ∧ t.fatal = s.fatal) ∧
      (t.outsel = s.outsel ∧ t.filled = s.filled ∧ t.nwords = s.nwords ∧
        t.nperiods = s.nperiods ∧ t.fexact = s.fexact ∧ t.clkdiv = s.clkdiv ∧
        t.approxIter = s.approxIter ∧ t.input = s.input)

/-- A step that changes a buffer byte is a compute step in mode 1 to 5, or a reset
(20_memory.md R90; that a reset empties them is the model's choice, log 4). -/
def Obligations.OnlyComputeStepWritesBuffers : Prop :=
  ∀ s t : State, step s = .next t → (∃ a, t.mem.readByte a ≠ s.mem.readByte a) →
    (nextTurn s = some (.agent .seqCompute) ∧ s.seq = .computing ∧ s.mode ≠ 0#3) ∨
      nextTurn s = some .reset

/-- STATE changes only in an FSM step that passes its gate, to what TXEN asks for, and that step
arms the ramp of its edge; an FSM step arms steady only in Transmitting and silent only in Silent
(10_state.md R55; 43_output_fsm.md R304, R306, R308). -/
def Obligations.OutputStateChangesOnlyWithItsRamp : Prop :=
  ∀ s t : State, step s = .next t →
    (t.outputState ≠ s.outputState → nextTurn s ≠ some .reset →
        nextTurn s = some (.agent .fsmStep) ∧ s.irqPend = true ∧ s.armed = true ∧
          s.engActive = false ∧ t.engActive = true ∧ t.engWord = 0#15 ∧ t.engSlot = 0#4 ∧
          (t.outputState = .transmitting → s.txen = true ∧ t.engBuf = 2#2 ∧ t.ind = true) ∧
          (t.outputState = .silent → s.txen = false ∧ t.engBuf = 3#2 ∧ t.ind = false)) ∧
      (nextTurn s = some (.agent .fsmStep) → s.engActive = false → t.engActive = true →
        (t.engBuf = 1#2 → s.outputState = .transmitting) ∧
          (t.engBuf = 0#2 → s.outputState = .silent))

/-- The trace changes only by one record at its end, the sample at the engine's position, in an
ENG_EMIT of an active engine, or by a reset (10_state.md R64; 43_output_fsm.md R321, R322). -/
def Obligations.TraceGrowsOnlyByEmission : Prop :=
  ∀ s t : State, step s = .next t →
    t.trace = s.trace ∨
      (nextTurn s = some (.agent .engEmit) ∧ s.engActive = true ∧
        t.trace = s.trace ++
          [⟨((memRead s.mem s.engBuf s.engWord.toNat) >>> (2 * s.engSlot.toNat)).setWidth 2,
            s.pinOwn, s.outsel⟩]) ∨
      (nextTurn s = some .reset ∧ t.trace = [])

/-- An INTSTAT bit falls only by a host write of 1 to it or by reset, rises only with its event
(ERR only in a step that records an error), and no step raises two (10_state.md R28;
60_exceptions.md R452, R456, R458, R460). -/
def Obligations.IntstatBitsFollowTheirEvents : Prop :=
  ∀ s t : State, step s = .next t →
    (∀ j, j < 4 → s.intstat.getLsbD j = true → t.intstat.getLsbD j = false →
        nextTurn s = some .reset ∨
          ∃ tw v, nextTurn s = some (.host tw) ∧ decodeTw tw = .wrIntstat v ∧
            v.getLsbD j = true) ∧
      (s.intstat.getLsbD 0 = false → t.intstat.getLsbD 0 = true →
        ∃ c : ErrorCode,
          t.errCode = (record c s).errCode ∧ t.errOvf = (record c s).errOvf ∧
            t.errValid = (record c s).errValid ∧ t.intstat = (record c s).intstat) ∧
      (s.intstat.getLsbD 1 = false → t.intstat.getLsbD 1 = true →
        nextTurn s = some (.agent .seqCompute) ∧ s.seq = .computing) ∧
      (s.intstat.getLsbD 2 = false → t.intstat.getLsbD 2 = true →
        s.outputState = .silent ∧ t.outputState = .transmitting) ∧
      (s.intstat.getLsbD 3 = false → t.intstat.getLsbD 3 = true →
        s.outputState = .transmitting ∧ t.outputState = .silent) ∧
      (∀ j k, j < 4 → k < 4 → s.intstat.getLsbD j = false → t.intstat.getLsbD j = true →
        s.intstat.getLsbD k = false → t.intstat.getLsbD k = true → j = k)

/-- DIRTY is set by every accepted configuration write, left alone by every other transaction,
and cleared only by the compute step (44_controller.md R340; 10_state.md R51). -/
def Obligations.DirtyFollowsConfigurationWrites : Prop :=
  (∀ (i : Instr) (s t : State), exec i s = .next t →
      (isConfigWrite i = true →
          t.dirty = true ∨ t = rejectedWrite .busy s ∨ t = rejectedWrite .range s) ∧
        (isConfigWrite i = false → t.dirty = s.dirty)) ∧
    ∀ s t : State, step s = .next t → s.dirty = true → t.dirty = false →
      nextTurn s = some (.agent .seqCompute) ∧ s.seq = .computing

/-! ## Host operations: each answers a next state -/

/-- The reads of ID, CMD and the control and configuration registers return the register, in
every state, and change nothing but the returned value (45_bus_access.md R391, R394 to R404). -/
def Obligations.ControlRegisterReadsReturn : Prop :=
  ∀ s : State,
    exec .rdId s = .next { s with rdata := some 0x57514531#32 } ∧
      exec .rdCmd s = .next { s with rdata := some 0#32 } ∧
      exec .rdTxen s = .next { s with rdata := some (if s.txen then 1#32 else 0#32) } ∧
      exec .rdInten s = .next { s with rdata := some (s.inten.setWidth 32) } ∧
      exec .rdIntstat s = .next { s with rdata := some (s.intstat.setWidth 32) } ∧
      exec .rdFreq s = .next { s with rdata := some s.freq } ∧
      exec .rdMode s = .next { s with rdata := some (s.mode.setWidth 32) } ∧
      exec .rdAmp s = .next { s with rdata := some (s.amp.setWidth 32) } ∧
      exec .rdDither s = .next { s with rdata := some (s.dither.setWidth 32) } ∧
      exec .rdHd3amp s = .next { s with rdata := some s.hd3amp } ∧
      exec .rdHd3ph s = .next { s with rdata := some s.hd3ph } ∧
      exec .rdMaxw s = .next { s with rdata := some (s.maxw.setWidth 32) }

/-- The reads of SEED, of the computed registers and of the solver registers return the register,
in every state, and change nothing but the returned value (45_bus_access.md R405 to R416). -/
def Obligations.ResultRegisterReadsReturn : Prop :=
  ∀ s : State,
    exec .rdSeed s = .next { s with rdata := some s.seed } ∧
      exec .rdNwords s = .next { s with rdata := some (s.nwords.setWidth 32) } ∧
      exec .rdNperiods s = .next { s with rdata := some (s.nperiods.setWidth 32) } ∧
      exec .rdFexact s = .next { s with rdata := some s.fexact } ∧
      exec .rdClkdiv s = .next { s with rdata := some (s.clkdiv.setWidth 32) } ∧
      exec .rdApproxIter s = .next { s with rdata := some (s.approxIter.setWidth 32) } ∧
      exec .rdSolvTnum s = .next { s with rdata := some s.solvTnum } ∧
      exec .rdSolvTden s = .next { s with rdata := some s.solvTden } ∧
      exec .rdSolvQmax s = .next { s with rdata := some s.solvQmax } ∧
      exec .rdSolvP s = .next { s with rdata := some s.solvP } ∧
      exec .rdSolvQ s = .next { s with rdata := some s.solvQ } ∧
      exec .rdSolvIter s = .next { s with rdata := some (s.solvIter.setWidth 32) }

/-- The reads of STATUS and ERR return their views, bit for bit, and the reads of the parameters
return them, in every state (45_bus_access.md R392, R393, R417, R418; 00_scope.md R4 for the
ranges). -/
def Obligations.StatusErrorAndParameterReadsReturn : Prop :=
  ∀ s : State,
    (∃ v : Word, exec .rdStatus s = .next { s with rdata := some v } ∧
      v.getLsbD 0 = s.dirty ∧ v.getLsbD 1 = decide (s.seq ≠ .idle) ∧
      (s.seq = .idle → v.extractLsb' 2 2 = 0#2) ∧
      (s.seq = .halting → v.extractLsb' 2 2 = 1#2) ∧
      (s.seq = .computing → v.extractLsb' 2 2 = 2#2) ∧
      v.getLsbD 4 = decide (s.outputState = .transmitting) ∧ v.getLsbD 5 = s.ind ∧
      v.getLsbD 6 = s.engActive ∧ v.extractLsb' 7 2 = s.engBuf ∧ v.getLsbD 9 = s.armed ∧
      v.getLsbD 10 = s.abortReq ∧ v.getLsbD 11 = s.irqPend ∧ v.getLsbD 12 = s.pinOwn ∧
      (s.outsel = .noProgram → v.extractLsb' 13 2 = 0#2) ∧
      (s.outsel = .serial → v.extractLsb' 13 2 = 1#2) ∧
      (s.outsel = .clkdiv → v.extractLsb' 13 2 = 2#2) ∧
      v.getLsbD 15 = s.filled ∧ v.getLsbD 16 = s.fatal ∧ v.getLsbD 17 = s.errValid ∧
      v.getLsbD 18 = s.txen ∧ v.extractLsb' 19 13 = 0#13) ∧
    (∃ v : Word, exec .rdErr s = .next { s with rdata := some v } ∧
      v.extractLsb' 0 4 = s.errCode ∧ v.extractLsb' 4 26 = 0#26 ∧ v.getLsbD 30 = s.errOvf ∧
      v.getLsbD 31 = s.errValid) ∧
    (∃ v : Word, exec .rdParamCap s = .next { s with rdata := some v } ∧
      v.toNat = Config.bufCap ∧ 2 ≤ Config.bufCap ∧ Config.bufCap ≤ 16384) ∧
    (∃ v : Word, exec .rdParamCpu s = .next { s with rdata := some v } ∧
      v.toNat = Config.cpuHz ∧ 1000000 ≤ Config.cpuHz ∧ Config.cpuHz ≤ 1073741823)

/-- A buffer read is checked for its word index, then for a busy sequencer, then for a first fill,
and answers the word, little-endian, when it passes (45_bus_access.md R444; 20_memory.md R81). -/
def Obligations.BufferReadsFollowTheirChecks : Prop :=
  ∀ (b : BitVec 2) (w : BitVec 14) (s : State),
    exec (bufferReadOp b w) s =
        .next
          (if w.toNat ≥ Config.bufCap then rejectedRead .badAddr s
          else if s.seq ≠ .idle then rejectedRead .busy s
          else if s.filled = false then rejectedRead .notFilled s
          else { s with rdata := some (memRead s.mem b w.toNat) }) ∧
      (w.toNat < Config.bufCap → s.seq = .idle → s.filled = true →
        ∃ v : Word, exec (bufferReadOp b w) s = .next { s with rdata := some v } ∧
          ∀ k, k < 4 →
            v.extractLsb' (8 * k) 8 = s.mem.readByte (0x10000 * (b.toNat + 1) + 4 * w.toNat + k))

/-- The ungated control writes, in every state: ERR is cleared by bit 31, TXEN takes bit 0, INTEN
bits 3:0, and INTSTAT loses the bits written as 1 (45_bus_access.md R423 to R426). -/
def Obligations.ControlWritesTakeEffect : Prop :=
  ∀ (v : Word) (s : State),
    exec (.wrErr v) s =
        .next
          (if v.getLsbD 31 then
            { s with errCode := 0#4, errOvf := false, errValid := false, rdata := none }
          else { s with rdata := none }) ∧
      exec (.wrTxen v) s = .next { s with txen := v.getLsbD 0, rdata := none } ∧
      exec (.wrInten v) s = .next { s with inten := v.extractLsb' 0 4, rdata := none } ∧
      exec (.wrIntstat v) s =
        .next { s with intstat := s.intstat &&& ~~~(v.extractLsb' 0 4), rdata := none }

/-- While the sequencer is idle a configuration write of a legal value stores it and sets DIRTY,
and of any other value is rejected with RANGE (45_bus_access.md R427 to R434). -/
def Obligations.ConfigurationWritesCheckTheirRange : Prop :=
  ∀ (v : Word) (s : State), s.seq = .idle →
    exec (.wrFreq v) s =
        .next (if 6400000 ≤ v.toNat ∧ v.toNat ≤ 1280000000 then
          { s with freq := v, dirty := true, rdata := none } else rejectedWrite .range s) ∧
      exec (.wrMode v) s =
        .next (if v.toNat ≤ 5 then
          { s with mode := v.setWidth 3, dirty := true, rdata := none }
          else rejectedWrite .range s) ∧
      exec (.wrAmp v) s =
        .next (if v.toNat ≤ 0x20000 then
          { s with amp := v.setWidth 18, dirty := true, rdata := none }
          else rejectedWrite .range s) ∧
      exec (.wrDither v) s =
        .next (if v.toNat ≤ 0x20000 then
          { s with dither := v.setWidth 18, dirty := true, rdata := none }
          else rejectedWrite .range s) ∧
      exec (.wrHd3amp v) s =
        .next (if -0x8000 ≤ v.toInt ∧ v.toInt ≤ 0x8000 then
          { s with hd3amp := v, dirty := true, rdata := none } else rejectedWrite .range s) ∧
      exec (.wrHd3ph v) s = .next { s with hd3ph := v, dirty := true, rdata := none } ∧
      exec (.wrMaxw v) s =
        .next (if 2 ≤ v.toNat ∧ v.toNat ≤ 10000 then
          { s with maxw := v.setWidth 14, dirty := true, rdata := none }
          else rejectedWrite .range s) ∧
      exec (.wrSeed v) s =
        .next (if v ≠ 0#32 then { s with seed := v, dirty := true, rdata := none }
          else rejectedWrite .range s)

/-- While the sequencer is not idle every configuration write is rejected with BUSY; every CMD
write is rejected with FATAL in FATAL, else with BUSY while the sequencer is not idle
(45_bus_access.md R442). -/
def Obligations.GateRejectsBusyAndFatal : Prop :=
  ∀ (i : Instr) (s : State),
    (isConfigWrite i = true → s.seq ≠ .idle → exec i s = .next (rejectedWrite .busy s)) ∧
      ((i = .cmdApply ∨ i = .cmdRestorePins ∨ i = .cmdSolve ∨ ∃ v, i = .cmdReserved v) →
        (s.fatal = true → exec i s = .next (rejectedWrite .fatal s)) ∧
          (s.fatal = false → s.seq ≠ .idle → exec i s = .next (rejectedWrite .busy s)))

/-- The solver's operand registers take any value but a zero denominator, in every state, and
leave DIRTY alone (45_bus_access.md R435 to R437). -/
def Obligations.SolverRegisterWritesTakeEffect : Prop :=
  ∀ (v : Word) (s : State),
    exec (.wrSolvTnum v) s = .next { s with solvTnum := v, rdata := none } ∧
      exec (.wrSolvTden v) s =
        .next (if v ≠ 0#32 then { s with solvTden := v, rdata := none }
          else rejectedWrite .range s) ∧
      exec (.wrSolvQmax v) s = .next { s with solvQmax := v, rdata := none }

/-- A write to a read-only register is rejected with READONLY in every state, and a write to a
buffer word too, or with BAD_ADDR when there is no such word (45_bus_access.md R439). -/
def Obligations.ReadOnlyWritesAreRejected : Prop :=
  ∀ s : State,
    (∀ i ∈ ([.wrRoId, .wrRoStatus, .wrRoNwords, .wrRoNperiods, .wrRoFexact, .wrRoClkdiv,
          .wrRoApproxIter, .wrRoSolvP, .wrRoSolvQ, .wrRoSolvIter, .wrRoParamCap,
          .wrRoParamCpu] : List Instr),
        exec i s = .next (rejectedWrite .readonly s)) ∧
      ∀ (b : BitVec 2) (w : BitVec 14),
        exec (bufferWriteOp b w) s =
          .next (if w.toNat ≥ Config.bufCap then rejectedWrite .badAddr s
            else rejectedWrite .readonly s)

/-- A CMD write of no command code is rejected with BAD_CMD once it passes the gate; a misaligned
access is rejected with ALIGN and an unmapped one with BAD_ADDR in every state, a read returning
0 (45_bus_access.md R438, R440, R441). -/
def Obligations.CatchAllOperationsAreRejected : Prop :=
  ∀ (s : State) (v : Word) (size : BitVec 2) (addr : BusAddr),
    exec (.cmdReserved v) s =
        .next (if s.fatal = true then rejectedWrite .fatal s
          else if s.seq ≠ .idle then rejectedWrite .busy s
          else rejectedWrite .badCmd s) ∧
      exec (.misaligned true size addr) s = .next (rejectedWrite .align s) ∧
      exec (.misaligned false size addr) s = .next (rejectedRead .align s) ∧
      exec (.unmapped true addr) s = .next (rejectedWrite .badAddr s) ∧
      exec (.unmapped false addr) s = .next (rejectedRead .badAddr s)

/-- Recording an error keeps the first code, sets OVF for a further one, latches INTSTAT.ERR and
changes nothing else; a rejected write stores nothing and a rejected read returns 0
(60_exceptions.md R452), with the code numbers of R451. -/
def Obligations.RecordKeepsTheFirstError : Prop :=
  (∀ (c : ErrorCode) (s : State),
      record c s =
          (if s.errValid = false then
            { s with errCode := c.bits, errValid := true, intstat := s.intstat ||| 1#4 }
          else { s with errOvf := true, intstat := s.intstat ||| 1#4 }) ∧
        rejectedWrite c s = { record c s with rdata := none } ∧
        rejectedRead c s = { record c s with rdata := some 0#32 }) ∧
    ErrorCode.bits .range = 1#4 ∧ ErrorCode.bits .busy = 2#4 ∧ ErrorCode.bits .badAddr = 3#4 ∧
    ErrorCode.bits .align = 4#4 ∧ ErrorCode.bits .readonly = 5#4 ∧
    ErrorCode.bits .badCmd = 6#4 ∧ ErrorCode.bits .notFilled = 7#4 ∧
    ErrorCode.bits .abortTimeout = 8#4 ∧ ErrorCode.bits .fatal = 9#4

/-- An accepted APPLY does nothing when not dirty, starts a halt when the engine is armed, and
goes to the computation otherwise (44_controller.md R342 to R345). -/
def Obligations.ApplyStartsTheRightPhase : Prop :=
  ∀ s : State, s.fatal = false → s.seq = .idle →
    exec .cmdApply s =
      .next
        (if s.dirty = false then { s with rdata := none }
        else if s.armed = true then
          { s with
            armed := false, abortReq := true, poll := 0, seq := .halting, rdata := none }
        else { s with seq := .computing, rdata := none })

/-- An accepted RESTORE_PINS clears PIN_OWN and nothing else (44_controller.md R359). -/
def Obligations.RestorePinsReleasesThePins : Prop :=
  ∀ s : State,
    (s.fatal = false → s.seq = .idle →
        exec .cmdRestorePins s = .next { s with pinOwn := false, rdata := none }) ∧
      (s.fatal = true → exec .cmdRestorePins s = .next (rejectedWrite .fatal s)) ∧
      (s.fatal = false → s.seq ≠ .idle →
        exec .cmdRestorePins s = .next (rejectedWrite .busy s))

/-- An accepted SOLVE stores the solution of its three operand registers in SOLV_P, SOLV_Q and
SOLV_ITER, without loss, and changes nothing else (41_rational_solver.md R215, R214;
70_reset_and_hazards.md R503). -/
def Obligations.SolveCommandStoresTheSolution : Prop :=
  ∀ s : State, s.fatal = false → s.seq = .idle →
    ∃ p q it, exec .cmdSolve s =
        .next { s with solvP := p, solvQ := q, solvIter := it, rdata := none } ∧
      (s.solvTden ≠ 0#32 →
        let r := solve s.solvTnum.toInt s.solvTden.toNat s.solvQmax.toNat
        (p.toNat : Int) = r.p ∧ (q.toNat : Int) = r.q ∧ it.toNat = r.it)

/-! ## The agents -/

/-- A halt poll moves on when the engine has honoured the abort, counts when it has not, and
enters FATAL, recording ABORT_TIMEOUT, when that exhausts the budget (44_controller.md R346 to
R348). -/
def Obligations.HaltPollOutcomes : Prop :=
  ∀ (s : State) (rest : List Turn), s.input = .agent .seqPoll :: rest → s.seq = .halting →
    s.armed = false →
    (s.engActive = false → s.abortReq = false →
        step s = .next { s with seq := .computing, poll := 0, input := rest }) ∧
      ((s.engActive = true ∨ s.abortReq = true) → s.poll + 1 ≠ Config.abortPollMax →
        step s = .next { s with poll := s.poll + 1, input := rest }) ∧
      ((s.engActive = true ∨ s.abortReq = true) → s.poll + 1 = Config.abortPollMax →
        step s =
          .next (record .abortTimeout
            { s with
              poll := s.poll + 1, fatal := true, seq := .idle, outsel := .noProgram,
              pinOwn := false, input := rest }))

/-- A schedule that polls ABORT_POLL_MAX times before the engine honours the abort ends in FATAL
(70_reset_and_hazards.md R504; 44_controller.md R347, R348); ARMED and the kept count are the
model's reading, log 15. -/
def Obligations.AbortBudgetEndsInFatal : Prop :=
  ∀ (s : State) (rest : List Turn), s.seq = .halting → s.abortReq = true → s.poll = 0 →
    s.input = List.replicate Config.abortPollMax (.agent .seqPoll) ++ rest →
    ∃ t, Host.Core.run core Config.abortPollMax s = .next t ∧ t.fatal = true ∧
      t.seq = .idle ∧ t.pinOwn = false ∧ t.outsel = .noProgram ∧ t.armed = false ∧
      t.abortReq = true ∧ t.dirty = s.dirty ∧ t.poll = Config.abortPollMax ∧
      t.errValid = true ∧ (s.errValid = false → t.errCode = 8#4) ∧ t.intstat.getLsbD 0 = true ∧
      t.input = rest

/-- Under weak fairness no halt lasts for ever: from every state that meets the control invariants
a fair execution leaves HALTING (00_scope.md R3; 44_controller.md R346, R347); fairness is asked
of each internal step (log 10). -/
def Obligations.FairExecutionsLeaveHalting : Prop :=
  ∀ (e : Execution) (n : Nat), WeaklyFair e → ControlInv (e.states n) →
    ∃ m, n ≤ m ∧ (e.states m).seq ≠ .halting

/-- The compute step in mode 0: the divisor, the achieved frequency, and completion, with the
buffers and the fill's registers untouched; with legal registers both are stored without loss and
the divisor's upper bound does not bind (44_controller.md R350, R351, R352, R358; logs 16, 19). -/
def Obligations.ModeZeroComputeStep : Prop :=
  ∀ (s : State) (rest : List Turn), s.input = .agent .seqCompute :: rest →
    s.seq = .computing → s.mode = 0#3 →
    let f := s.freq.toNat
    let rounded := (2 * 8192 * Config.cpuHz + f) / (2 * f)
    let div := min (max rounded 0x100) 0xFFFFFF
    ∃ (clkdiv : BitVec 24) (fexact : Word),
      step s =
        .next
          { s with
            clkdiv := clkdiv
            fexact := fexact
            outsel := .clkdiv
            dirty := false
            pinOwn := true
            seq := .idle
            intstat := s.intstat ||| 2#4
            input := rest } ∧
      (RegisterInv s →
        clkdiv.toNat = div ∧ fexact.toNat = 8192 * Config.cpuHz / div ∧
          rounded < 0xFFFFFF)

/-- The compute step in modes 1 to 5: it solves, scales, fills and re-arms; every buffer word
reads as the fill gives it, and every byte outside the buffers reads as before (44_controller.md
R353 to R358; 42_waveform_fill.md R275). -/
def Obligations.ComputeStepPublishesTheFill : Prop :=
  ∀ (s : State) (rest : List Turn), s.input = .agent .seqCompute :: rest →
    s.seq = .computing → s.mode ≠ 0#3 → s.mem.wf = true →
    let r := solve s.freq.toNat (4 * Config.cpuHz) (min s.maxw.toNat Config.bufCap)
    let m := Config.bufCap / r.q.toNat
    let w := m * r.q.toNat
    let p := m * r.p.toNat
    let f := fill sine Config.bufCap
      ⟨w, p, s.amp, s.dither, s.hd3amp, s.hd3ph, s.mode, s.seed⟩
    ∃ mem', step s =
        .next
          { s with
            mem := mem'
            nwords := BitVec.ofNat 15 w
            nperiods := BitVec.ofNat 15 p
            approxIter := BitVec.ofNat 7 r.it
            fexact := BitVec.ofNat 32 (4 * Config.cpuHz * p / w)
            filled := true
            outsel := .serial
            engBuf := if s.outputState = .transmitting then 1#2 else 0#2
            engWord := 0#15
            engSlot := 0#4
            engActive := true
            armed := true
            dirty := false
            pinOwn := true
            seq := .idle
            intstat := s.intstat ||| 2#4
            input := rest } ∧
      (∀ (b : BitVec 2) (k : Nat), k < Config.bufCap →
        memRead mem' b k = (Buffers.words f b).getD k 0#32) ∧
      ∀ a, ¬IsBufferByte a → mem'.readByte a = s.mem.readByte a

/-- An ENG_EMIT of an active engine emits the pair at its position, tagged, and moves to the next
slot, to the next word, or completes the buffer and sets IRQ_PEND; an ENG_ABORT stops the engine
without a completion (43_output_fsm.md R321, R322, R323, R325). -/
def Obligations.EngineStepsEmitAndAbort : Prop :=
  ∀ (s : State) (rest : List Turn),
    (s.input = .agent .engEmit :: rest → s.engActive = true →
        s.engWord.toNat < Config.bufCap →
        let pair := ((memRead s.mem s.engBuf s.engWord.toNat) >>>
          (2 * s.engSlot.toNat)).setWidth 2
        let trace' := s.trace ++ [⟨pair, s.pinOwn, s.outsel⟩]
        step s =
          .next
            (if s.engSlot.toNat < 15 then
              { s with engSlot := s.engSlot + 1#4, trace := trace', input := rest }
            else if s.engWord.toNat + 1 < s.nwords.toNat then
              { s with
                engSlot := 0#4, engWord := s.engWord + 1#15, trace := trace', input := rest }
            else
              { s with
                engActive := false, engWord := 0#15, engSlot := 0#4, irqPend := true,
                trace := trace', input := rest })) ∧
      (s.input = .agent .engAbort :: rest → s.abortReq = true →
        step s =
          .next
            { s with
              engActive := false, engWord := 0#15, engSlot := 0#4, abortReq := false,
              input := rest })

/-- An armed buffer is played whole: 16 * NWORDS emissions from its first sample append its
samples in order, leave the engine idle and set IRQ_PEND (43_output_fsm.md R321, R323;
42_waveform_fill.md R269). -/
def Obligations.EnginePlaysTheWholeBuffer : Prop :=
  ∀ (s : State) (rest : List Turn), s.engActive = true → s.engWord = 0#15 →
    s.engSlot = 0#4 → 1 ≤ s.nwords.toNat → s.nwords.toNat ≤ Config.bufCap →
    s.input = List.replicate (16 * s.nwords.toNat) (.agent .engEmit) ++ rest →
    Host.Core.run core (16 * s.nwords.toNat) s =
      .next
        { s with
          engActive := false
          irqPend := true
          trace := s.trace ++ (bufferSamples s.mem s.engBuf s.nwords.toNat).map
            fun pair => ⟨pair, s.pinOwn, s.outsel⟩
          input := rest }

/-- An FSM step acknowledges always, and when the trigger is enabled and the engine idle it arms
the buffer that TXEN and STATE choose, with IND, STATE and INTSTAT on an edge (43_output_fsm.md
R300 to R306, R324). -/
def Obligations.FsmStepChoosesTheBuffer : Prop :=
  ∀ (s : State) (rest : List Turn), s.input = .agent .fsmStep :: rest → s.irqPend = true →
    let acknowledged := { s with irqPend := false, input := rest }
    let armed (b : BitVec 2) :=
      { acknowledged with engBuf := b, engWord := 0#15, engSlot := 0#4, engActive := true }
    step s =
      .next
        (if s.armed = true ∧ s.engActive = false then
          match s.txen, s.outputState with
          | true, .transmitting => armed 1#2
          | true, .silent =>
            { armed 2#2 with
              ind := true, outputState := .transmitting, intstat := s.intstat ||| 4#4 }
          | false, .silent => armed 0#2
          | false, .transmitting =>
            { armed 3#2 with
              ind := false, outputState := .silent, intstat := s.intstat ||| 8#4 }
        else acknowledged)

/-- The interrupt output is the OR of the enabled INTSTAT bits (60_exceptions.md R457). Owned
pins rest low while the serializer is idle, stream its samples while it is active and carry the
divider in mode 0; pins not owned are released; the indicator follows IND; an emitted pair drives
the pins when they are owned by the serializer and not otherwise (43_output_fsm.md R322, R326,
R327, R328). The names of the cases, and owned pins with no program, are the model's (logs 12
and 13). -/
def Obligations.InterruptLineAndPins : Prop :=
  ∀ s : State,
    (irq s = true ↔ ∃ i, i < 4 ∧ s.intstat.getLsbD i = true ∧ s.inten.getLsbD i = true) ∧
      (s.pinOwn = true → s.outsel = .serial → s.engActive = false →
        s.pins = .level false false) ∧
      (s.pinOwn = true → s.outsel = .serial → s.engActive = true → s.pins = .streaming) ∧
      (s.pinOwn = true → s.outsel = .clkdiv → s.pins = .clockDivider s.clkdiv) ∧
      (s.pinOwn = true → s.outsel = .noProgram → s.pins = .noProgram) ∧
      (s.pinOwn = false → s.pins = .released) ∧
      s.indicatorPin = s.ind ∧
      ∀ r : TraceRec,
        (r.pinOwn = true → r.outsel = .serial →
          r.pins = some (r.pair.getLsbD 0, r.pair.getLsbD 1)) ∧
          (r.pinOwn = false ∨ r.outsel ≠ .serial → r.pins = none)

/-! ## The solver and the calculation -/

/-- Every result of the solver is a fraction in lowest terms from 0 to 1 whose denominator keeps
the cap, the conventions 1/1 and 0/1 outside the range (41_rational_solver.md R201, R202,
R212). -/
def Obligations.SolverResultIsAProperFraction : Prop :=
  ∀ x y qmax : Int, 1 ≤ y → 0 ≤ qmax →
    let r := solve x y qmax
    1 ≤ r.q ∧ 0 ≤ r.p ∧ r.p ≤ r.q ∧ Int.gcd r.p r.q = 1 ∧
      (0 ≤ x → x ≤ y → r.q ≤ max qmax 1) ∧
      (y < x → r = ⟨1, 1, 0⟩) ∧ (x < 0 → r = ⟨0, 1, 0⟩)

/-- For a target in range the result is closest to it among all fractions whose denominator keeps
the cap, and the smaller one of two equally close (41_rational_solver.md R213). -/
def Obligations.SolverResultIsClosest : Prop :=
  ∀ x y qmax : Int, 0 ≤ x → x ≤ y → 1 ≤ y → 0 ≤ qmax → qmax < 2 ^ 32 →
    let r := solve x y qmax
    ∀ p q : Int, 1 ≤ q → q ≤ max qmax 1 →
      |r.p * y - x * r.q| * q ≤ |p * y - x * q| * r.q ∧
        (|r.p * y - x * r.q| * q = |p * y - x * q| * r.q → r.p * q ≤ p * r.q)

/-- For every cap below 2^32 the search takes at most 45 passes, so the cap of 100 is never
reached (41_rational_solver.md R210). -/
def Obligations.SolverTakesAtMost45Passes : Prop :=
  ∀ x y qmax : Int, 1 ≤ y → 0 ≤ qmax → qmax < 2 ^ 32 → (solve x y qmax).it ≤ 45

/-- The calculation fits the buffer: 1 to BUF_CAP words, as many as the multiplier allows, in the
solver's ratio, and FEXACT is the achieved frequency rounded down (44_controller.md R354, R361,
R362). -/
def Obligations.CalculationFitsTheBuffer : Prop :=
  ∀ cpuHz cap freq maxw : Nat, 1 ≤ cpuHz → 2 ≤ cap →
    let r := solve freq (4 * cpuHz) (min maxw cap)
    let c := calculate cpuHz cap freq maxw
    1 ≤ c.words ∧ c.words ≤ cap ∧ (cap : Int) - r.q < c.words ∧ c.periods ≤ c.words ∧
      (c.periods : Int) * r.q = c.words * r.p ∧
      c.fexact * c.words ≤ 4 * cpuHz * c.periods ∧
      4 * cpuHz * c.periods < (c.fexact + 1) * c.words

/-! ## The fill -/

/-- Every buffer of a fill has BUF_CAP words, the silent one zero, every tail zero; in modes 1 to
3 ramp-up copies steady and ramp-down is silent (42_waveform_fill.md R270 to R274). -/
def Obligations.FillKeepsTheBufferShape : Prop :=
  ∀ (sin : Word → Int) (cap : Nat) (f : FillInput), f.words ≤ cap →
    let r := fill sin cap f
    (∀ b, (Buffers.words r b).length = cap) ∧
      (∀ w, r.silent.getD w 0#32 = 0#32) ∧
      (∀ b w, f.words ≤ w → (Buffers.words r b).getD w 0#32 = 0#32) ∧
      ((f.mode = 1#3 ∨ f.mode = 2#3 ∨ f.mode = 3#3) →
        r.rampUp = r.steady ∧ ∀ w, r.rampDown.getD w 0#32 = 0#32)

/-- In modes 1, 2 and 4 no bit pair of any buffer is 11 (42_waveform_fill.md R276 (b)). -/
def Obligations.TwoLevelModesNeverSetBothBits : Prop :=
  ∀ (sin : Word → Int) (cap : Nat) (f : FillInput),
    (f.mode = 1#3 ∨ f.mode = 2#3 ∨ f.mode = 4#3) →
    ∀ (b : BitVec 2) (v : Word), v ∈ Buffers.words (fill sin cap f) b →
      ∀ j, j < 16 → (v >>> (2 * j)).setWidth 2 ≠ 0b11#2

/-- The middle-level samples of a quantized series are encoded both bits low and both bits high
in turn, low first (42_waveform_fill.md R267, R268). -/
def Obligations.MiddleLevelAlternates : Prop :=
  ∀ (q : Quantizer) (dither : BitVec 18) (xs : List Int) (r : Word),
    let middle := (quantizeSeries q dither xs r QuantState.init).1.filter
      fun c => c == 0b00#2 || c == 0b11#2
    ∀ i, i < middle.length → middle.getD i 0#2 = if i % 2 = 0 then 0b00#2 else 0b11#2

/-- For every sine of the stated shape the taper window starts at 0, ends at 1.0 and never falls
in between (42_waveform_fill.md R249, R244 (a) to (d)). -/
def Obligations.TaperWindowRises : Prop :=
  ∀ sin : Word → Int, SineShape sin → ∀ n, 16 ≤ n →
    window sin n 0 = 0 ∧ window sin n (n - 1) = 2 ^ 30 ∧
      ∀ i j, i ≤ j → j ≤ n - 1 → window sin n i ≤ window sin n j

/-- With legal amplitudes and a sine in its unit range the ideal sample and both ramp samples stay
within 2.5 (42_waveform_fill.md R248). -/
def Obligations.SamplesStayInRange : Prop :=
  ∀ (sin : Word → Int) (amp : BitVec 18) (hd3amp hd3ph θ : Word) (n i : Nat),
    (∀ u, |sin u| ≤ 2 ^ 30) → amp.toNat ≤ 0x20000 → |hd3amp.toInt| ≤ 0x8000 →
    let x := idealSample sin amp hd3amp hd3ph θ
    |x| ≤ 0x28000 ∧ |rampUpSample sin n i x| ≤ 0x28000 ∧ |rampDownSample sin n i x| ≤ 0x28000

/-- The generator never leaves the nonzero states, and a dither value lies in
[-DITHER, DITHER), 0 when DITHER is 0 (42_waveform_fill.md R252, R254). -/
def Obligations.DitherStaysInRange : Prop :=
  (∀ r : Word, r ≠ 0#32 → draw r ≠ 0#32) ∧
    ∀ (dither : BitVec 18) (r : Word),
      (dither = 0#18 → ditherValue dither r = 0) ∧
        (dither ≠ 0#18 →
          -(dither.toNat : Int) ≤ ditherValue dither r ∧ ditherValue dither r < dither.toNat)

/-- Sample `i` of a series stands in word `i / 16` at slot `i mod 16` (42_waveform_fill.md
R269). -/
def Obligations.PackedSamplesReadBack : Prop :=
  ∀ (w : Nat) (codes : List (BitVec 2)), codes.length = 16 * w →
    ∀ i, i < 16 * w →
      (((packWords w codes).getD (i / 16) 0#32) >>> (2 * (i % 16))).setWidth 2 =
        codes.getD i 0#2

/-- The model's reference sine is an admissible sine (42_waveform_fill.md R244, R245; its series
is the model's, log 9). -/
def Obligations.ReferenceSineIsAdmissible : Prop := SineAdmissible sineRef

/-! ## Non-interference -/

/-- What the buffers hold after reset is never observed: whatever it is, every schedule leads to
states that agree in everything but the buffers (70_reset_and_hazards.md R491; log 4). -/
def Obligations.UnspecifiedBufferContentIsNeverObserved : Prop :=
  ∀ (m : Memory) (turns : List Turn) (n : Nat), m.wf = true →
    ∃ t t', Host.Core.run core n { State.reset with mem := m, input := turns } = .next t ∧
      Host.Core.run core n { State.reset with input := turns } = .next t' ∧
      EqualButBuffers t t'
end

