-- ==== Sys2Proof/Laws/Encoding.lean ====
section
/-! SUPPORT. The fields of an assembled transaction word (30_encoding.md R110, R111). -/

namespace Sys2Proof

theorem twWe_twOf (we : Bool) (size : BitVec 2) (addr : BusAddr) (wdata : Word) :
    twWe (twOf we size addr wdata) = we := by
  simp only [twWe, twOf, BitVec.getLsbD_append]
  simp

theorem twSize_twOf (we : Bool) (size : BitVec 2) (addr : BusAddr) (wdata : Word) :
    twSize (twOf we size addr wdata) = size := by
  apply BitVec.eq_of_getLsbD_eq
  intro i hi
  simp only [twSize, twOf, BitVec.getLsbD_extractLsb', BitVec.getLsbD_append, hi, decide_true,
    Bool.true_and]
  simp [show ¬ 51 + i < 32 by omega, show ¬ 51 + i - 32 < 19 by omega,
    show 51 + i - 32 - 19 = i by omega, hi]

theorem twAddr_twOf (we : Bool) (size : BitVec 2) (addr : BusAddr) (wdata : Word) :
    twAddr (twOf we size addr wdata) = addr := by
  apply BitVec.eq_of_getLsbD_eq
  intro i hi
  simp only [twAddr, twOf, BitVec.getLsbD_extractLsb', BitVec.getLsbD_append, hi, decide_true,
    Bool.true_and]
  simp [show 32 + i - 32 = i by omega, hi]

theorem twData_twOf (we : Bool) (size : BitVec 2) (addr : BusAddr) (wdata : Word) :
    twData (twOf we size addr wdata) = wdata := by
  apply BitVec.eq_of_getLsbD_eq
  intro i hi
  simp only [twData, twOf, BitVec.getLsbD_extractLsb', BitVec.getLsbD_append, hi, decide_true,
    Bool.true_and]
  simp [hi]

end Sys2Proof
end

