-- ==== Sys2Proof/Laws/Memory.lean ====
section
/-! SUPPORT. The laws of the buffer memory: reading back what was written, leaving every other
byte alone, and the canonical form, which every memory operation keeps. -/

namespace Sys2Proof.Machine

@[simp] theorem Memory.readByte_nil (a : Nat) : Memory.readByte [] a = unlistedByte := rfl

/-- In canonical form a byte below every listed address is unlisted. -/
theorem Memory.readByte_below {m : Memory} {a : Nat} (h : ∀ c ∈ m, a < c.1) :
    m.readByte a = unlistedByte := by
  induction m with
  | nil => rfl
  | cons c rest ih =>
    have := h c (by simp)
    simp only [Memory.readByte, if_neg (by omega : ¬ c.1 = a)]
    exact ih fun d hd => h d (by simp [hd])

theorem Memory.wf_cons {k : Nat} {v : Byte} {rest : Memory} :
    Memory.wf ((k, v) :: rest) = true ↔
      v ≠ unlistedByte ∧ (∀ c ∈ rest, k < c.1) ∧ rest.wf = true := by
  simp [Memory.wf, and_assoc]

/-- Every address a write lists was listed or is the one written. -/
theorem Memory.mem_writeByte {m : Memory} {a : Nat} {v : Byte} {c : Host.Cell}
    (h : c ∈ m.writeByte a v) : c ∈ m ∨ c = (a, v) := by
  induction m with
  | nil =>
    unfold Memory.writeByte at h
    split at h <;> simp_all
  | cons d rest ih =>
    obtain ⟨k, u⟩ := d
    unfold Memory.writeByte at h
    split at h
    · split at h <;> (simp only [List.mem_cons] at h ⊢; tauto)
    · split at h
      · split at h <;> (simp only [List.mem_cons] at h ⊢; tauto)
      · rcases List.mem_cons.1 h with h | h
        · exact .inl (by simp [h])
        · rcases ih h with h | h
          · exact .inl (by simp [h])
          · exact .inr h

/-- A byte write keeps the canonical form. -/
theorem Memory.wf_writeByte {m : Memory} (a : Nat) (v : Byte) (h : m.wf = true) :
    (m.writeByte a v).wf = true := by
  induction m with
  | nil => unfold Memory.writeByte; split <;> simp_all [Memory.wf]
  | cons d rest ih =>
    obtain ⟨k, u⟩ := d
    obtain ⟨hu, hk, hr⟩ := Memory.wf_cons.1 h
    unfold Memory.writeByte
    split
    · next hlt =>
      split
      · exact h
      · next hv =>
        refine Memory.wf_cons.2 ⟨hv, fun c hc => ?_, h⟩
        rcases List.mem_cons.1 hc with rfl | hc
        · exact hlt
        · exact hlt.trans (hk c hc)
    · next hge =>
      split
      · next heq =>
        split
        · exact hr
        · next hv => exact Memory.wf_cons.2 ⟨hv, fun c hc => heq ▸ hk c hc, hr⟩
      · next hne =>
        refine Memory.wf_cons.2 ⟨hu, fun c hc => ?_, ih hr⟩
        rcases Memory.mem_writeByte hc with hc | rfl
        · exact hk c hc
        · simp only; omega

/-- Reading the byte just written, in canonical form. -/
theorem Memory.readByte_writeByte_same {m : Memory} (a : Nat) (v : Byte) (h : m.wf = true) :
    (m.writeByte a v).readByte a = v := by
  induction m with
  | nil => unfold Memory.writeByte; split <;> simp_all [Memory.readByte]
  | cons d rest ih =>
    obtain ⟨k, u⟩ := d
    obtain ⟨_, hk, hr⟩ := Memory.wf_cons.1 h
    unfold Memory.writeByte
    split
    · next hlt =>
      split
      · next hv =>
        rw [hv]
        refine Memory.readByte_below fun c hc => ?_
        rcases List.mem_cons.1 hc with rfl | hc
        · exact hlt
        · exact hlt.trans (hk c hc)
      · simp [Memory.readByte]
    · split
      · next heq =>
        subst heq
        split
        · next hv => rw [hv]; exact Memory.readByte_below hk
        · simp [Memory.readByte]
      · next hne =>
        simp only [Memory.readByte, if_neg (Ne.symm hne)]
        exact ih hr

/-- A byte write leaves every other byte alone. -/
theorem Memory.readByte_writeByte_other {m : Memory} {a c : Nat} (v : Byte) (hc : c ≠ a) :
    (m.writeByte a v).readByte c = m.readByte c := by
  induction m with
  | nil => unfold Memory.writeByte; split <;> simp [Memory.readByte, Ne.symm hc]
  | cons d rest ih =>
    obtain ⟨k, u⟩ := d
    unfold Memory.writeByte
    split
    · split
      · rfl
      · simp [Memory.readByte, Ne.symm hc]
    · split
      · next heq =>
        subst heq
        split <;> simp [Memory.readByte, Ne.symm hc]
      · simp only [Memory.readByte, ih]

/-! ### Words -/

theorem Memory.wf_writeWord {m : Memory} (a : Nat) (v : Word) (h : m.wf = true) :
    (m.writeWord a v).wf = true := by
  unfold Memory.writeWord
  exact wf_writeByte _ _ (wf_writeByte _ _ (wf_writeByte _ _ (wf_writeByte _ _ h)))

theorem Memory.wf_writeWords (vs : List Word) :
    ∀ {m : Memory} (a : Nat), m.wf = true → (m.writeWords a vs).wf = true := by
  induction vs with
  | nil => exact fun _ h => h
  | cons v vs ih => exact fun a h => ih (a + 4) (Memory.wf_writeWord a v h)

theorem publish_wf (f : Buffers) {m : Memory} (h : m.wf = true) : (publish f m).wf = true := by
  unfold publish
  exact Memory.wf_writeWords _ _ (Memory.wf_writeWords _ _ (Memory.wf_writeWords _ _
    (Memory.wf_writeWords _ _ h)))

theorem reset_mem_wf : State.reset.mem.wf = true := rfl

/-- A word write leaves every byte outside its four alone. -/
theorem Memory.readByte_writeWord_other {m : Memory} {a c : Nat} (v : Word)
    (h : c < a ∨ a + 4 ≤ c) : (m.writeWord a v).readByte c = m.readByte c := by
  unfold Memory.writeWord
  rw [readByte_writeByte_other _ (by omega), readByte_writeByte_other _ (by omega),
    readByte_writeByte_other _ (by omega), readByte_writeByte_other _ (by omega)]

/-- The bytes of a word just written. -/
theorem Memory.readByte_writeWord_same {m : Memory} {a : Nat} (v : Word) (h : m.wf = true)
    {k : Nat} (hk : k < 4) :
    (m.writeWord a v).readByte (a + k) = v.extractLsb' (8 * k) 8 := by
  have h0 := wf_writeByte a (v.extractLsb' 0 8) h
  have h1 := wf_writeByte (a + 1) (v.extractLsb' 8 8) h0
  have h2 := wf_writeByte (a + 2) (v.extractLsb' 16 8) h1
  unfold Memory.writeWord
  obtain rfl | rfl | rfl | rfl : k = 0 ∨ k = 1 ∨ k = 2 ∨ k = 3 := by omega
  · rw [readByte_writeByte_other _ (by omega), readByte_writeByte_other _ (by omega),
      readByte_writeByte_other _ (by omega)]
    exact readByte_writeByte_same _ _ h
  · rw [readByte_writeByte_other _ (by omega), readByte_writeByte_other _ (by omega)]
    exact readByte_writeByte_same _ _ h0
  · rw [readByte_writeByte_other _ (by omega)]
    exact readByte_writeByte_same _ _ h1
  · exact readByte_writeByte_same _ _ h2

/-- Four bytes of a word, put together again. -/
theorem word_of_bytes (v : Word) :
    (v.extractLsb' 24 8 ++ v.extractLsb' 16 8 ++ v.extractLsb' 8 8 ++ v.extractLsb' 0 8 : Word)
      = v := by
  apply BitVec.eq_of_getLsbD_eq
  intro i hi
  simp only [BitVec.getLsbD_append, BitVec.getLsbD_extractLsb']
  by_cases h0 : i < 8
  · simp [h0]
  · by_cases h1 : i < 16
    · simp [h0, show i - 8 < 8 by omega, show 8 + (i - 8) = i by omega]
    · by_cases h2 : i < 24
      · simp [h0, show ¬ i - 8 < 8 by omega, show i - 8 - 8 < 8 by omega,
          show 16 + (i - 8 - 8) = i by omega]
      · simp [h0, show ¬ i - 8 < 8 by omega, show ¬ i - 8 - 8 < 8 by omega,
          show i - 8 - 8 - 8 < 8 by omega, show 24 + (i - 8 - 8 - 8) = i by omega]

/-- Reading the word just written, in canonical form. -/
theorem Memory.readWord_writeWord_same {m : Memory} (a : Nat) (v : Word) (h : m.wf = true) :
    (m.writeWord a v).readWord a = v := by
  have hb := fun k hk => Memory.readByte_writeWord_same (m := m) (a := a) v h (k := k) hk
  have h0 := hb 0 (by omega)
  rw [Nat.add_zero] at h0
  unfold Memory.readWord
  rw [hb 3 (by omega), hb 2 (by omega), hb 1 (by omega), h0]
  exact word_of_bytes v

/-- A word write leaves every disjoint word alone. -/
theorem Memory.readWord_writeWord_other {m : Memory} {a c : Nat} (v : Word)
    (h : c + 4 ≤ a ∨ a + 4 ≤ c) : (m.writeWord a v).readWord c = m.readWord c := by
  unfold Memory.readWord
  rw [readByte_writeWord_other _ (by omega), readByte_writeWord_other _ (by omega),
    readByte_writeWord_other _ (by omega), readByte_writeWord_other _ (by omega)]

/-- Writing consecutive words leaves every byte outside them alone. -/
theorem Memory.readByte_writeWords_other (vs : List Word) :
    ∀ {m : Memory} {a c : Nat}, (c < a ∨ a + 4 * vs.length ≤ c) →
      (m.writeWords a vs).readByte c = m.readByte c := by
  induction vs with
  | nil => exact fun _ => rfl
  | cons v vs ih =>
    intro m a c h
    simp only [List.length_cons] at h
    rw [Memory.writeWords, ih (by omega), readByte_writeWord_other _ (by omega)]

/-- Writing consecutive words leaves every disjoint word alone. -/
theorem Memory.readWord_writeWords_other (vs : List Word) {m : Memory} {a c : Nat}
    (h : c + 4 ≤ a ∨ a + 4 * vs.length ≤ c) :
    (m.writeWords a vs).readWord c = m.readWord c := by
  unfold Memory.readWord
  rw [readByte_writeWords_other _ (by omega), readByte_writeWords_other _ (by omega),
    readByte_writeWords_other _ (by omega), readByte_writeWords_other _ (by omega)]

/-- Reading one of the consecutive words just written, in canonical form. -/
theorem Memory.readWord_writeWords_same (vs : List Word) :
    ∀ {m : Memory} {a : Nat} (w : Nat) (hw : w < vs.length), m.wf = true →
      (m.writeWords a vs).readWord (a + 4 * w) = vs[w] := by
  induction vs with
  | nil => exact fun w hw => absurd hw (Nat.not_lt_zero w)
  | cons v vs ih =>
    intro m a w hw h
    cases w with
    | zero =>
      rw [Memory.writeWords, Memory.readWord_writeWords_other _ (by omega)]
      exact readWord_writeWord_same _ _ h
    | succ w =>
      have := ih (m := m.writeWord a v) (a := a + 4) w (by simpa using hw) (wf_writeWord a v h)
      rw [Memory.writeWords, show a + 4 * (w + 1) = a + 4 + 4 * w by omega, this]
      rfl

end Sys2Proof.Machine
end

