-- ==== Sys2Proof/Laws/State.lean ====
section
/-! SUPPORT. The small lemmas of the named state updates: one per field and update, all true by
unfolding the update once, so that no later proof unfolds it. -/

namespace Sys2Proof.Machine

/-! ### raiseEvent -/

@[simp] theorem raiseEvent_errCode (e : Event) (s : State) : (raiseEvent e s).errCode = s.errCode := rfl
@[simp] theorem raiseEvent_errOvf (e : Event) (s : State) : (raiseEvent e s).errOvf = s.errOvf := rfl
@[simp] theorem raiseEvent_errValid (e : Event) (s : State) : (raiseEvent e s).errValid = s.errValid := rfl
@[simp] theorem raiseEvent_txen (e : Event) (s : State) : (raiseEvent e s).txen = s.txen := rfl
@[simp] theorem raiseEvent_inten (e : Event) (s : State) : (raiseEvent e s).inten = s.inten := rfl
@[simp] theorem raiseEvent_intstat (e : Event) (s : State) : (raiseEvent e s).intstat = s.intstat ||| e.mask := rfl
@[simp] theorem raiseEvent_freq (e : Event) (s : State) : (raiseEvent e s).freq = s.freq := rfl
@[simp] theorem raiseEvent_mode (e : Event) (s : State) : (raiseEvent e s).mode = s.mode := rfl
@[simp] theorem raiseEvent_amp (e : Event) (s : State) : (raiseEvent e s).amp = s.amp := rfl
@[simp] theorem raiseEvent_dither (e : Event) (s : State) : (raiseEvent e s).dither = s.dither := rfl
@[simp] theorem raiseEvent_hd3amp (e : Event) (s : State) : (raiseEvent e s).hd3amp = s.hd3amp := rfl
@[simp] theorem raiseEvent_hd3ph (e : Event) (s : State) : (raiseEvent e s).hd3ph = s.hd3ph := rfl
@[simp] theorem raiseEvent_maxw (e : Event) (s : State) : (raiseEvent e s).maxw = s.maxw := rfl
@[simp] theorem raiseEvent_seed (e : Event) (s : State) : (raiseEvent e s).seed = s.seed := rfl
@[simp] theorem raiseEvent_nwords (e : Event) (s : State) : (raiseEvent e s).nwords = s.nwords := rfl
@[simp] theorem raiseEvent_nperiods (e : Event) (s : State) : (raiseEvent e s).nperiods = s.nperiods := rfl
@[simp] theorem raiseEvent_fexact (e : Event) (s : State) : (raiseEvent e s).fexact = s.fexact := rfl
@[simp] theorem raiseEvent_clkdiv (e : Event) (s : State) : (raiseEvent e s).clkdiv = s.clkdiv := rfl
@[simp] theorem raiseEvent_approxIter (e : Event) (s : State) : (raiseEvent e s).approxIter = s.approxIter := rfl
@[simp] theorem raiseEvent_solvTnum (e : Event) (s : State) : (raiseEvent e s).solvTnum = s.solvTnum := rfl
@[simp] theorem raiseEvent_solvTden (e : Event) (s : State) : (raiseEvent e s).solvTden = s.solvTden := rfl
@[simp] theorem raiseEvent_solvQmax (e : Event) (s : State) : (raiseEvent e s).solvQmax = s.solvQmax := rfl
@[simp] theorem raiseEvent_solvP (e : Event) (s : State) : (raiseEvent e s).solvP = s.solvP := rfl
@[simp] theorem raiseEvent_solvQ (e : Event) (s : State) : (raiseEvent e s).solvQ = s.solvQ := rfl
@[simp] theorem raiseEvent_solvIter (e : Event) (s : State) : (raiseEvent e s).solvIter = s.solvIter := rfl
@[simp] theorem raiseEvent_mem (e : Event) (s : State) : (raiseEvent e s).mem = s.mem := rfl
@[simp] theorem raiseEvent_dirty (e : Event) (s : State) : (raiseEvent e s).dirty = s.dirty := rfl
@[simp] theorem raiseEvent_seq (e : Event) (s : State) : (raiseEvent e s).seq = s.seq := rfl
@[simp] theorem raiseEvent_poll (e : Event) (s : State) : (raiseEvent e s).poll = s.poll := rfl
@[simp] theorem raiseEvent_fatal (e : Event) (s : State) : (raiseEvent e s).fatal = s.fatal := rfl
@[simp] theorem raiseEvent_outputState (e : Event) (s : State) : (raiseEvent e s).outputState = s.outputState := rfl
@[simp] theorem raiseEvent_ind (e : Event) (s : State) : (raiseEvent e s).ind = s.ind := rfl
@[simp] theorem raiseEvent_armed (e : Event) (s : State) : (raiseEvent e s).armed = s.armed := rfl
@[simp] theorem raiseEvent_abortReq (e : Event) (s : State) : (raiseEvent e s).abortReq = s.abortReq := rfl
@[simp] theorem raiseEvent_irqPend (e : Event) (s : State) : (raiseEvent e s).irqPend = s.irqPend := rfl
@[simp] theorem raiseEvent_engActive (e : Event) (s : State) : (raiseEvent e s).engActive = s.engActive := rfl
@[simp] theorem raiseEvent_engBuf (e : Event) (s : State) : (raiseEvent e s).engBuf = s.engBuf := rfl
@[simp] theorem raiseEvent_engWord (e : Event) (s : State) : (raiseEvent e s).engWord = s.engWord := rfl
@[simp] theorem raiseEvent_engSlot (e : Event) (s : State) : (raiseEvent e s).engSlot = s.engSlot := rfl
@[simp] theorem raiseEvent_pinOwn (e : Event) (s : State) : (raiseEvent e s).pinOwn = s.pinOwn := rfl
@[simp] theorem raiseEvent_outsel (e : Event) (s : State) : (raiseEvent e s).outsel = s.outsel := rfl
@[simp] theorem raiseEvent_filled (e : Event) (s : State) : (raiseEvent e s).filled = s.filled := rfl
@[simp] theorem raiseEvent_trace (e : Event) (s : State) : (raiseEvent e s).trace = s.trace := rfl
@[simp] theorem raiseEvent_rdata (e : Event) (s : State) : (raiseEvent e s).rdata = s.rdata := rfl
@[simp] theorem raiseEvent_input (e : Event) (s : State) : (raiseEvent e s).input = s.input := rfl

/-! ### record -/

@[simp] theorem record_errCode (c : ErrorCode) (s : State) : (record c s).errCode = if s.errValid then s.errCode else c.bits := rfl
@[simp] theorem record_errOvf (c : ErrorCode) (s : State) : (record c s).errOvf = (s.errOvf || s.errValid) := rfl
@[simp] theorem record_errValid (c : ErrorCode) (s : State) : (record c s).errValid = true := rfl
@[simp] theorem record_txen (c : ErrorCode) (s : State) : (record c s).txen = s.txen := rfl
@[simp] theorem record_inten (c : ErrorCode) (s : State) : (record c s).inten = s.inten := rfl
@[simp] theorem record_intstat (c : ErrorCode) (s : State) : (record c s).intstat = s.intstat ||| 1#4 := rfl
@[simp] theorem record_freq (c : ErrorCode) (s : State) : (record c s).freq = s.freq := rfl
@[simp] theorem record_mode (c : ErrorCode) (s : State) : (record c s).mode = s.mode := rfl
@[simp] theorem record_amp (c : ErrorCode) (s : State) : (record c s).amp = s.amp := rfl
@[simp] theorem record_dither (c : ErrorCode) (s : State) : (record c s).dither = s.dither := rfl
@[simp] theorem record_hd3amp (c : ErrorCode) (s : State) : (record c s).hd3amp = s.hd3amp := rfl
@[simp] theorem record_hd3ph (c : ErrorCode) (s : State) : (record c s).hd3ph = s.hd3ph := rfl
@[simp] theorem record_maxw (c : ErrorCode) (s : State) : (record c s).maxw = s.maxw := rfl
@[simp] theorem record_seed (c : ErrorCode) (s : State) : (record c s).seed = s.seed := rfl
@[simp] theorem record_nwords (c : ErrorCode) (s : State) : (record c s).nwords = s.nwords := rfl
@[simp] theorem record_nperiods (c : ErrorCode) (s : State) : (record c s).nperiods = s.nperiods := rfl
@[simp] theorem record_fexact (c : ErrorCode) (s : State) : (record c s).fexact = s.fexact := rfl
@[simp] theorem record_clkdiv (c : ErrorCode) (s : State) : (record c s).clkdiv = s.clkdiv := rfl
@[simp] theorem record_approxIter (c : ErrorCode) (s : State) : (record c s).approxIter = s.approxIter := rfl
@[simp] theorem record_solvTnum (c : ErrorCode) (s : State) : (record c s).solvTnum = s.solvTnum := rfl
@[simp] theorem record_solvTden (c : ErrorCode) (s : State) : (record c s).solvTden = s.solvTden := rfl
@[simp] theorem record_solvQmax (c : ErrorCode) (s : State) : (record c s).solvQmax = s.solvQmax := rfl
@[simp] theorem record_solvP (c : ErrorCode) (s : State) : (record c s).solvP = s.solvP := rfl
@[simp] theorem record_solvQ (c : ErrorCode) (s : State) : (record c s).solvQ = s.solvQ := rfl
@[simp] theorem record_solvIter (c : ErrorCode) (s : State) : (record c s).solvIter = s.solvIter := rfl
@[simp] theorem record_mem (c : ErrorCode) (s : State) : (record c s).mem = s.mem := rfl
@[simp] theorem record_dirty (c : ErrorCode) (s : State) : (record c s).dirty = s.dirty := rfl
@[simp] theorem record_seq (c : ErrorCode) (s : State) : (record c s).seq = s.seq := rfl
@[simp] theorem record_poll (c : ErrorCode) (s : State) : (record c s).poll = s.poll := rfl
@[simp] theorem record_fatal (c : ErrorCode) (s : State) : (record c s).fatal = s.fatal := rfl
@[simp] theorem record_outputState (c : ErrorCode) (s : State) : (record c s).outputState = s.outputState := rfl
@[simp] theorem record_ind (c : ErrorCode) (s : State) : (record c s).ind = s.ind := rfl
@[simp] theorem record_armed (c : ErrorCode) (s : State) : (record c s).armed = s.armed := rfl
@[simp] theorem record_abortReq (c : ErrorCode) (s : State) : (record c s).abortReq = s.abortReq := rfl
@[simp] theorem record_irqPend (c : ErrorCode) (s : State) : (record c s).irqPend = s.irqPend := rfl
@[simp] theorem record_engActive (c : ErrorCode) (s : State) : (record c s).engActive = s.engActive := rfl
@[simp] theorem record_engBuf (c : ErrorCode) (s : State) : (record c s).engBuf = s.engBuf := rfl
@[simp] theorem record_engWord (c : ErrorCode) (s : State) : (record c s).engWord = s.engWord := rfl
@[simp] theorem record_engSlot (c : ErrorCode) (s : State) : (record c s).engSlot = s.engSlot := rfl
@[simp] theorem record_pinOwn (c : ErrorCode) (s : State) : (record c s).pinOwn = s.pinOwn := rfl
@[simp] theorem record_outsel (c : ErrorCode) (s : State) : (record c s).outsel = s.outsel := rfl
@[simp] theorem record_filled (c : ErrorCode) (s : State) : (record c s).filled = s.filled := rfl
@[simp] theorem record_trace (c : ErrorCode) (s : State) : (record c s).trace = s.trace := rfl
@[simp] theorem record_rdata (c : ErrorCode) (s : State) : (record c s).rdata = s.rdata := rfl
@[simp] theorem record_input (c : ErrorCode) (s : State) : (record c s).input = s.input := rfl

/-! ### respond -/

@[simp] theorem respond_errCode (v : Option Word) (s : State) : (respond v s).errCode = s.errCode := rfl
@[simp] theorem respond_errOvf (v : Option Word) (s : State) : (respond v s).errOvf = s.errOvf := rfl
@[simp] theorem respond_errValid (v : Option Word) (s : State) : (respond v s).errValid = s.errValid := rfl
@[simp] theorem respond_txen (v : Option Word) (s : State) : (respond v s).txen = s.txen := rfl
@[simp] theorem respond_inten (v : Option Word) (s : State) : (respond v s).inten = s.inten := rfl
@[simp] theorem respond_intstat (v : Option Word) (s : State) : (respond v s).intstat = s.intstat := rfl
@[simp] theorem respond_freq (v : Option Word) (s : State) : (respond v s).freq = s.freq := rfl
@[simp] theorem respond_mode (v : Option Word) (s : State) : (respond v s).mode = s.mode := rfl
@[simp] theorem respond_amp (v : Option Word) (s : State) : (respond v s).amp = s.amp := rfl
@[simp] theorem respond_dither (v : Option Word) (s : State) : (respond v s).dither = s.dither := rfl
@[simp] theorem respond_hd3amp (v : Option Word) (s : State) : (respond v s).hd3amp = s.hd3amp := rfl
@[simp] theorem respond_hd3ph (v : Option Word) (s : State) : (respond v s).hd3ph = s.hd3ph := rfl
@[simp] theorem respond_maxw (v : Option Word) (s : State) : (respond v s).maxw = s.maxw := rfl
@[simp] theorem respond_seed (v : Option Word) (s : State) : (respond v s).seed = s.seed := rfl
@[simp] theorem respond_nwords (v : Option Word) (s : State) : (respond v s).nwords = s.nwords := rfl
@[simp] theorem respond_nperiods (v : Option Word) (s : State) : (respond v s).nperiods = s.nperiods := rfl
@[simp] theorem respond_fexact (v : Option Word) (s : State) : (respond v s).fexact = s.fexact := rfl
@[simp] theorem respond_clkdiv (v : Option Word) (s : State) : (respond v s).clkdiv = s.clkdiv := rfl
@[simp] theorem respond_approxIter (v : Option Word) (s : State) : (respond v s).approxIter = s.approxIter := rfl
@[simp] theorem respond_solvTnum (v : Option Word) (s : State) : (respond v s).solvTnum = s.solvTnum := rfl
@[simp] theorem respond_solvTden (v : Option Word) (s : State) : (respond v s).solvTden = s.solvTden := rfl
@[simp] theorem respond_solvQmax (v : Option Word) (s : State) : (respond v s).solvQmax = s.solvQmax := rfl
@[simp] theorem respond_solvP (v : Option Word) (s : State) : (respond v s).solvP = s.solvP := rfl
@[simp] theorem respond_solvQ (v : Option Word) (s : State) : (respond v s).solvQ = s.solvQ := rfl
@[simp] theorem respond_solvIter (v : Option Word) (s : State) : (respond v s).solvIter = s.solvIter := rfl
@[simp] theorem respond_mem (v : Option Word) (s : State) : (respond v s).mem = s.mem := rfl
@[simp] theorem respond_dirty (v : Option Word) (s : State) : (respond v s).dirty = s.dirty := rfl
@[simp] theorem respond_seq (v : Option Word) (s : State) : (respond v s).seq = s.seq := rfl
@[simp] theorem respond_poll (v : Option Word) (s : State) : (respond v s).poll = s.poll := rfl
@[simp] theorem respond_fatal (v : Option Word) (s : State) : (respond v s).fatal = s.fatal := rfl
@[simp] theorem respond_outputState (v : Option Word) (s : State) : (respond v s).outputState = s.outputState := rfl
@[simp] theorem respond_ind (v : Option Word) (s : State) : (respond v s).ind = s.ind := rfl
@[simp] theorem respond_armed (v : Option Word) (s : State) : (respond v s).armed = s.armed := rfl
@[simp] theorem respond_abortReq (v : Option Word) (s : State) : (respond v s).abortReq = s.abortReq := rfl
@[simp] theorem respond_irqPend (v : Option Word) (s : State) : (respond v s).irqPend = s.irqPend := rfl
@[simp] theorem respond_engActive (v : Option Word) (s : State) : (respond v s).engActive = s.engActive := rfl
@[simp] theorem respond_engBuf (v : Option Word) (s : State) : (respond v s).engBuf = s.engBuf := rfl
@[simp] theorem respond_engWord (v : Option Word) (s : State) : (respond v s).engWord = s.engWord := rfl
@[simp] theorem respond_engSlot (v : Option Word) (s : State) : (respond v s).engSlot = s.engSlot := rfl
@[simp] theorem respond_pinOwn (v : Option Word) (s : State) : (respond v s).pinOwn = s.pinOwn := rfl
@[simp] theorem respond_outsel (v : Option Word) (s : State) : (respond v s).outsel = s.outsel := rfl
@[simp] theorem respond_filled (v : Option Word) (s : State) : (respond v s).filled = s.filled := rfl
@[simp] theorem respond_trace (v : Option Word) (s : State) : (respond v s).trace = s.trace := rfl
@[simp] theorem respond_rdata (v : Option Word) (s : State) : (respond v s).rdata = v := rfl
@[simp] theorem respond_input (v : Option Word) (s : State) : (respond v s).input = s.input := rfl

/-! ### arm -/

@[simp] theorem arm_errCode (b : BitVec 2) (s : State) : (arm b s).errCode = s.errCode := rfl
@[simp] theorem arm_errOvf (b : BitVec 2) (s : State) : (arm b s).errOvf = s.errOvf := rfl
@[simp] theorem arm_errValid (b : BitVec 2) (s : State) : (arm b s).errValid = s.errValid := rfl
@[simp] theorem arm_txen (b : BitVec 2) (s : State) : (arm b s).txen = s.txen := rfl
@[simp] theorem arm_inten (b : BitVec 2) (s : State) : (arm b s).inten = s.inten := rfl
@[simp] theorem arm_intstat (b : BitVec 2) (s : State) : (arm b s).intstat = s.intstat := rfl
@[simp] theorem arm_freq (b : BitVec 2) (s : State) : (arm b s).freq = s.freq := rfl
@[simp] theorem arm_mode (b : BitVec 2) (s : State) : (arm b s).mode = s.mode := rfl
@[simp] theorem arm_amp (b : BitVec 2) (s : State) : (arm b s).amp = s.amp := rfl
@[simp] theorem arm_dither (b : BitVec 2) (s : State) : (arm b s).dither = s.dither := rfl
@[simp] theorem arm_hd3amp (b : BitVec 2) (s : State) : (arm b s).hd3amp = s.hd3amp := rfl
@[simp] theorem arm_hd3ph (b : BitVec 2) (s : State) : (arm b s).hd3ph = s.hd3ph := rfl
@[simp] theorem arm_maxw (b : BitVec 2) (s : State) : (arm b s).maxw = s.maxw := rfl
@[simp] theorem arm_seed (b : BitVec 2) (s : State) : (arm b s).seed = s.seed := rfl
@[simp] theorem arm_nwords (b : BitVec 2) (s : State) : (arm b s).nwords = s.nwords := rfl
@[simp] theorem arm_nperiods (b : BitVec 2) (s : State) : (arm b s).nperiods = s.nperiods := rfl
@[simp] theorem arm_fexact (b : BitVec 2) (s : State) : (arm b s).fexact = s.fexact := rfl
@[simp] theorem arm_clkdiv (b : BitVec 2) (s : State) : (arm b s).clkdiv = s.clkdiv := rfl
@[simp] theorem arm_approxIter (b : BitVec 2) (s : State) : (arm b s).approxIter = s.approxIter := rfl
@[simp] theorem arm_solvTnum (b : BitVec 2) (s : State) : (arm b s).solvTnum = s.solvTnum := rfl
@[simp] theorem arm_solvTden (b : BitVec 2) (s : State) : (arm b s).solvTden = s.solvTden := rfl
@[simp] theorem arm_solvQmax (b : BitVec 2) (s : State) : (arm b s).solvQmax = s.solvQmax := rfl
@[simp] theorem arm_solvP (b : BitVec 2) (s : State) : (arm b s).solvP = s.solvP := rfl
@[simp] theorem arm_solvQ (b : BitVec 2) (s : State) : (arm b s).solvQ = s.solvQ := rfl
@[simp] theorem arm_solvIter (b : BitVec 2) (s : State) : (arm b s).solvIter = s.solvIter := rfl
@[simp] theorem arm_mem (b : BitVec 2) (s : State) : (arm b s).mem = s.mem := rfl
@[simp] theorem arm_dirty (b : BitVec 2) (s : State) : (arm b s).dirty = s.dirty := rfl
@[simp] theorem arm_seq (b : BitVec 2) (s : State) : (arm b s).seq = s.seq := rfl
@[simp] theorem arm_poll (b : BitVec 2) (s : State) : (arm b s).poll = s.poll := rfl
@[simp] theorem arm_fatal (b : BitVec 2) (s : State) : (arm b s).fatal = s.fatal := rfl
@[simp] theorem arm_outputState (b : BitVec 2) (s : State) : (arm b s).outputState = s.outputState := rfl
@[simp] theorem arm_ind (b : BitVec 2) (s : State) : (arm b s).ind = s.ind := rfl
@[simp] theorem arm_armed (b : BitVec 2) (s : State) : (arm b s).armed = s.armed := rfl
@[simp] theorem arm_abortReq (b : BitVec 2) (s : State) : (arm b s).abortReq = s.abortReq := rfl
@[simp] theorem arm_irqPend (b : BitVec 2) (s : State) : (arm b s).irqPend = s.irqPend := rfl
@[simp] theorem arm_engActive (b : BitVec 2) (s : State) : (arm b s).engActive = true := rfl
@[simp] theorem arm_engBuf (b : BitVec 2) (s : State) : (arm b s).engBuf = b := rfl
@[simp] theorem arm_engWord (b : BitVec 2) (s : State) : (arm b s).engWord = 0#15 := rfl
@[simp] theorem arm_engSlot (b : BitVec 2) (s : State) : (arm b s).engSlot = 0#4 := rfl
@[simp] theorem arm_pinOwn (b : BitVec 2) (s : State) : (arm b s).pinOwn = s.pinOwn := rfl
@[simp] theorem arm_outsel (b : BitVec 2) (s : State) : (arm b s).outsel = s.outsel := rfl
@[simp] theorem arm_filled (b : BitVec 2) (s : State) : (arm b s).filled = s.filled := rfl
@[simp] theorem arm_trace (b : BitVec 2) (s : State) : (arm b s).trace = s.trace := rfl
@[simp] theorem arm_rdata (b : BitVec 2) (s : State) : (arm b s).rdata = s.rdata := rfl
@[simp] theorem arm_input (b : BitVec 2) (s : State) : (arm b s).input = s.input := rfl

/-! ### stopEngine -/

@[simp] theorem stopEngine_errCode (s : State) : (stopEngine s).errCode = s.errCode := rfl
@[simp] theorem stopEngine_errOvf (s : State) : (stopEngine s).errOvf = s.errOvf := rfl
@[simp] theorem stopEngine_errValid (s : State) : (stopEngine s).errValid = s.errValid := rfl
@[simp] theorem stopEngine_txen (s : State) : (stopEngine s).txen = s.txen := rfl
@[simp] theorem stopEngine_inten (s : State) : (stopEngine s).inten = s.inten := rfl
@[simp] theorem stopEngine_intstat (s : State) : (stopEngine s).intstat = s.intstat := rfl
@[simp] theorem stopEngine_freq (s : State) : (stopEngine s).freq = s.freq := rfl
@[simp] theorem stopEngine_mode (s : State) : (stopEngine s).mode = s.mode := rfl
@[simp] theorem stopEngine_amp (s : State) : (stopEngine s).amp = s.amp := rfl
@[simp] theorem stopEngine_dither (s : State) : (stopEngine s).dither = s.dither := rfl
@[simp] theorem stopEngine_hd3amp (s : State) : (stopEngine s).hd3amp = s.hd3amp := rfl
@[simp] theorem stopEngine_hd3ph (s : State) : (stopEngine s).hd3ph = s.hd3ph := rfl
@[simp] theorem stopEngine_maxw (s : State) : (stopEngine s).maxw = s.maxw := rfl
@[simp] theorem stopEngine_seed (s : State) : (stopEngine s).seed = s.seed := rfl
@[simp] theorem stopEngine_nwords (s : State) : (stopEngine s).nwords = s.nwords := rfl
@[simp] theorem stopEngine_nperiods (s : State) : (stopEngine s).nperiods = s.nperiods := rfl
@[simp] theorem stopEngine_fexact (s : State) : (stopEngine s).fexact = s.fexact := rfl
@[simp] theorem stopEngine_clkdiv (s : State) : (stopEngine s).clkdiv = s.clkdiv := rfl
@[simp] theorem stopEngine_approxIter (s : State) : (stopEngine s).approxIter = s.approxIter := rfl
@[simp] theorem stopEngine_solvTnum (s : State) : (stopEngine s).solvTnum = s.solvTnum := rfl
@[simp] theorem stopEngine_solvTden (s : State) : (stopEngine s).solvTden = s.solvTden := rfl
@[simp] theorem stopEngine_solvQmax (s : State) : (stopEngine s).solvQmax = s.solvQmax := rfl
@[simp] theorem stopEngine_solvP (s : State) : (stopEngine s).solvP = s.solvP := rfl
@[simp] theorem stopEngine_solvQ (s : State) : (stopEngine s).solvQ = s.solvQ := rfl
@[simp] theorem stopEngine_solvIter (s : State) : (stopEngine s).solvIter = s.solvIter := rfl
@[simp] theorem stopEngine_mem (s : State) : (stopEngine s).mem = s.mem := rfl
@[simp] theorem stopEngine_dirty (s : State) : (stopEngine s).dirty = s.dirty := rfl
@[simp] theorem stopEngine_seq (s : State) : (stopEngine s).seq = s.seq := rfl
@[simp] theorem stopEngine_poll (s : State) : (stopEngine s).poll = s.poll := rfl
@[simp] theorem stopEngine_fatal (s : State) : (stopEngine s).fatal = s.fatal := rfl
@[simp] theorem stopEngine_outputState (s : State) : (stopEngine s).outputState = s.outputState := rfl
@[simp] theorem stopEngine_ind (s : State) : (stopEngine s).ind = s.ind := rfl
@[simp] theorem stopEngine_armed (s : State) : (stopEngine s).armed = s.armed := rfl
@[simp] theorem stopEngine_abortReq (s : State) : (stopEngine s).abortReq = s.abortReq := rfl
@[simp] theorem stopEngine_irqPend (s : State) : (stopEngine s).irqPend = s.irqPend := rfl
@[simp] theorem stopEngine_engActive (s : State) : (stopEngine s).engActive = false := rfl
@[simp] theorem stopEngine_engBuf (s : State) : (stopEngine s).engBuf = s.engBuf := rfl
@[simp] theorem stopEngine_engWord (s : State) : (stopEngine s).engWord = 0#15 := rfl
@[simp] theorem stopEngine_engSlot (s : State) : (stopEngine s).engSlot = 0#4 := rfl
@[simp] theorem stopEngine_pinOwn (s : State) : (stopEngine s).pinOwn = s.pinOwn := rfl
@[simp] theorem stopEngine_outsel (s : State) : (stopEngine s).outsel = s.outsel := rfl
@[simp] theorem stopEngine_filled (s : State) : (stopEngine s).filled = s.filled := rfl
@[simp] theorem stopEngine_trace (s : State) : (stopEngine s).trace = s.trace := rfl
@[simp] theorem stopEngine_rdata (s : State) : (stopEngine s).rdata = s.rdata := rfl
@[simp] theorem stopEngine_input (s : State) : (stopEngine s).input = s.input := rfl

/-! ### emit -/

@[simp] theorem emit_errCode (p : BitVec 2) (s : State) : (emit p s).errCode = s.errCode := rfl
@[simp] theorem emit_errOvf (p : BitVec 2) (s : State) : (emit p s).errOvf = s.errOvf := rfl
@[simp] theorem emit_errValid (p : BitVec 2) (s : State) : (emit p s).errValid = s.errValid := rfl
@[simp] theorem emit_txen (p : BitVec 2) (s : State) : (emit p s).txen = s.txen := rfl
@[simp] theorem emit_inten (p : BitVec 2) (s : State) : (emit p s).inten = s.inten := rfl
@[simp] theorem emit_intstat (p : BitVec 2) (s : State) : (emit p s).intstat = s.intstat := rfl
@[simp] theorem emit_freq (p : BitVec 2) (s : State) : (emit p s).freq = s.freq := rfl
@[simp] theorem emit_mode (p : BitVec 2) (s : State) : (emit p s).mode = s.mode := rfl
@[simp] theorem emit_amp (p : BitVec 2) (s : State) : (emit p s).amp = s.amp := rfl
@[simp] theorem emit_dither (p : BitVec 2) (s : State) : (emit p s).dither = s.dither := rfl
@[simp] theorem emit_hd3amp (p : BitVec 2) (s : State) : (emit p s).hd3amp = s.hd3amp := rfl
@[simp] theorem emit_hd3ph (p : BitVec 2) (s : State) : (emit p s).hd3ph = s.hd3ph := rfl
@[simp] theorem emit_maxw (p : BitVec 2) (s : State) : (emit p s).maxw = s.maxw := rfl
@[simp] theorem emit_seed (p : BitVec 2) (s : State) : (emit p s).seed = s.seed := rfl
@[simp] theorem emit_nwords (p : BitVec 2) (s : State) : (emit p s).nwords = s.nwords := rfl
@[simp] theorem emit_nperiods (p : BitVec 2) (s : State) : (emit p s).nperiods = s.nperiods := rfl
@[simp] theorem emit_fexact (p : BitVec 2) (s : State) : (emit p s).fexact = s.fexact := rfl
@[simp] theorem emit_clkdiv (p : BitVec 2) (s : State) : (emit p s).clkdiv = s.clkdiv := rfl
@[simp] theorem emit_approxIter (p : BitVec 2) (s : State) : (emit p s).approxIter = s.approxIter := rfl
@[simp] theorem emit_solvTnum (p : BitVec 2) (s : State) : (emit p s).solvTnum = s.solvTnum := rfl
@[simp] theorem emit_solvTden (p : BitVec 2) (s : State) : (emit p s).solvTden = s.solvTden := rfl
@[simp] theorem emit_solvQmax (p : BitVec 2) (s : State) : (emit p s).solvQmax = s.solvQmax := rfl
@[simp] theorem emit_solvP (p : BitVec 2) (s : State) : (emit p s).solvP = s.solvP := rfl
@[simp] theorem emit_solvQ (p : BitVec 2) (s : State) : (emit p s).solvQ = s.solvQ := rfl
@[simp] theorem emit_solvIter (p : BitVec 2) (s : State) : (emit p s).solvIter = s.solvIter := rfl
@[simp] theorem emit_mem (p : BitVec 2) (s : State) : (emit p s).mem = s.mem := rfl
@[simp] theorem emit_dirty (p : BitVec 2) (s : State) : (emit p s).dirty = s.dirty := rfl
@[simp] theorem emit_seq (p : BitVec 2) (s : State) : (emit p s).seq = s.seq := rfl
@[simp] theorem emit_poll (p : BitVec 2) (s : State) : (emit p s).poll = s.poll := rfl
@[simp] theorem emit_fatal (p : BitVec 2) (s : State) : (emit p s).fatal = s.fatal := rfl
@[simp] theorem emit_outputState (p : BitVec 2) (s : State) : (emit p s).outputState = s.outputState := rfl
@[simp] theorem emit_ind (p : BitVec 2) (s : State) : (emit p s).ind = s.ind := rfl
@[simp] theorem emit_armed (p : BitVec 2) (s : State) : (emit p s).armed = s.armed := rfl
@[simp] theorem emit_abortReq (p : BitVec 2) (s : State) : (emit p s).abortReq = s.abortReq := rfl
@[simp] theorem emit_irqPend (p : BitVec 2) (s : State) : (emit p s).irqPend = s.irqPend := rfl
@[simp] theorem emit_engActive (p : BitVec 2) (s : State) : (emit p s).engActive = s.engActive := rfl
@[simp] theorem emit_engBuf (p : BitVec 2) (s : State) : (emit p s).engBuf = s.engBuf := rfl
@[simp] theorem emit_engWord (p : BitVec 2) (s : State) : (emit p s).engWord = s.engWord := rfl
@[simp] theorem emit_engSlot (p : BitVec 2) (s : State) : (emit p s).engSlot = s.engSlot := rfl
@[simp] theorem emit_pinOwn (p : BitVec 2) (s : State) : (emit p s).pinOwn = s.pinOwn := rfl
@[simp] theorem emit_outsel (p : BitVec 2) (s : State) : (emit p s).outsel = s.outsel := rfl
@[simp] theorem emit_filled (p : BitVec 2) (s : State) : (emit p s).filled = s.filled := rfl
@[simp] theorem emit_trace (p : BitVec 2) (s : State) : (emit p s).trace = s.trace ++ [⟨p, s.pinOwn, s.outsel⟩] := rfl
@[simp] theorem emit_rdata (p : BitVec 2) (s : State) : (emit p s).rdata = s.rdata := rfl
@[simp] theorem emit_input (p : BitVec 2) (s : State) : (emit p s).input = s.input := rfl

/-! ### withInput -/

@[simp] theorem withInput_errCode (ts : List Turn) (s : State) : (withInput ts s).errCode = s.errCode := rfl
@[simp] theorem withInput_errOvf (ts : List Turn) (s : State) : (withInput ts s).errOvf = s.errOvf := rfl
@[simp] theorem withInput_errValid (ts : List Turn) (s : State) : (withInput ts s).errValid = s.errValid := rfl
@[simp] theorem withInput_txen (ts : List Turn) (s : State) : (withInput ts s).txen = s.txen := rfl
@[simp] theorem withInput_inten (ts : List Turn) (s : State) : (withInput ts s).inten = s.inten := rfl
@[simp] theorem withInput_intstat (ts : List Turn) (s : State) : (withInput ts s).intstat = s.intstat := rfl
@[simp] theorem withInput_freq (ts : List Turn) (s : State) : (withInput ts s).freq = s.freq := rfl
@[simp] theorem withInput_mode (ts : List Turn) (s : State) : (withInput ts s).mode = s.mode := rfl
@[simp] theorem withInput_amp (ts : List Turn) (s : State) : (withInput ts s).amp = s.amp := rfl
@[simp] theorem withInput_dither (ts : List Turn) (s : State) : (withInput ts s).dither = s.dither := rfl
@[simp] theorem withInput_hd3amp (ts : List Turn) (s : State) : (withInput ts s).hd3amp = s.hd3amp := rfl
@[simp] theorem withInput_hd3ph (ts : List Turn) (s : State) : (withInput ts s).hd3ph = s.hd3ph := rfl
@[simp] theorem withInput_maxw (ts : List Turn) (s : State) : (withInput ts s).maxw = s.maxw := rfl
@[simp] theorem withInput_seed (ts : List Turn) (s : State) : (withInput ts s).seed = s.seed := rfl
@[simp] theorem withInput_nwords (ts : List Turn) (s : State) : (withInput ts s).nwords = s.nwords := rfl
@[simp] theorem withInput_nperiods (ts : List Turn) (s : State) : (withInput ts s).nperiods = s.nperiods := rfl
@[simp] theorem withInput_fexact (ts : List Turn) (s : State) : (withInput ts s).fexact = s.fexact := rfl
@[simp] theorem withInput_clkdiv (ts : List Turn) (s : State) : (withInput ts s).clkdiv = s.clkdiv := rfl
@[simp] theorem withInput_approxIter (ts : List Turn) (s : State) : (withInput ts s).approxIter = s.approxIter := rfl
@[simp] theorem withInput_solvTnum (ts : List Turn) (s : State) : (withInput ts s).solvTnum = s.solvTnum := rfl
@[simp] theorem withInput_solvTden (ts : List Turn) (s : State) : (withInput ts s).solvTden = s.solvTden := rfl
@[simp] theorem withInput_solvQmax (ts : List Turn) (s : State) : (withInput ts s).solvQmax = s.solvQmax := rfl
@[simp] theorem withInput_solvP (ts : List Turn) (s : State) : (withInput ts s).solvP = s.solvP := rfl
@[simp] theorem withInput_solvQ (ts : List Turn) (s : State) : (withInput ts s).solvQ = s.solvQ := rfl
@[simp] theorem withInput_solvIter (ts : List Turn) (s : State) : (withInput ts s).solvIter = s.solvIter := rfl
@[simp] theorem withInput_mem (ts : List Turn) (s : State) : (withInput ts s).mem = s.mem := rfl
@[simp] theorem withInput_dirty (ts : List Turn) (s : State) : (withInput ts s).dirty = s.dirty := rfl
@[simp] theorem withInput_seq (ts : List Turn) (s : State) : (withInput ts s).seq = s.seq := rfl
@[simp] theorem withInput_poll (ts : List Turn) (s : State) : (withInput ts s).poll = s.poll := rfl
@[simp] theorem withInput_fatal (ts : List Turn) (s : State) : (withInput ts s).fatal = s.fatal := rfl
@[simp] theorem withInput_outputState (ts : List Turn) (s : State) : (withInput ts s).outputState = s.outputState := rfl
@[simp] theorem withInput_ind (ts : List Turn) (s : State) : (withInput ts s).ind = s.ind := rfl
@[simp] theorem withInput_armed (ts : List Turn) (s : State) : (withInput ts s).armed = s.armed := rfl
@[simp] theorem withInput_abortReq (ts : List Turn) (s : State) : (withInput ts s).abortReq = s.abortReq := rfl
@[simp] theorem withInput_irqPend (ts : List Turn) (s : State) : (withInput ts s).irqPend = s.irqPend := rfl
@[simp] theorem withInput_engActive (ts : List Turn) (s : State) : (withInput ts s).engActive = s.engActive := rfl
@[simp] theorem withInput_engBuf (ts : List Turn) (s : State) : (withInput ts s).engBuf = s.engBuf := rfl
@[simp] theorem withInput_engWord (ts : List Turn) (s : State) : (withInput ts s).engWord = s.engWord := rfl
@[simp] theorem withInput_engSlot (ts : List Turn) (s : State) : (withInput ts s).engSlot = s.engSlot := rfl
@[simp] theorem withInput_pinOwn (ts : List Turn) (s : State) : (withInput ts s).pinOwn = s.pinOwn := rfl
@[simp] theorem withInput_outsel (ts : List Turn) (s : State) : (withInput ts s).outsel = s.outsel := rfl
@[simp] theorem withInput_filled (ts : List Turn) (s : State) : (withInput ts s).filled = s.filled := rfl
@[simp] theorem withInput_trace (ts : List Turn) (s : State) : (withInput ts s).trace = s.trace := rfl
@[simp] theorem withInput_rdata (ts : List Turn) (s : State) : (withInput ts s).rdata = s.rdata := rfl
@[simp] theorem withInput_input (ts : List Turn) (s : State) : (withInput ts s).input = ts := rfl

/-! ### finishCompute -/

@[simp] theorem finishCompute_errCode (s : State) : (finishCompute s).errCode = s.errCode := rfl
@[simp] theorem finishCompute_errOvf (s : State) : (finishCompute s).errOvf = s.errOvf := rfl
@[simp] theorem finishCompute_errValid (s : State) : (finishCompute s).errValid = s.errValid := rfl
@[simp] theorem finishCompute_txen (s : State) : (finishCompute s).txen = s.txen := rfl
@[simp] theorem finishCompute_inten (s : State) : (finishCompute s).inten = s.inten := rfl
@[simp] theorem finishCompute_intstat (s : State) : (finishCompute s).intstat = s.intstat ||| 2#4 := rfl
@[simp] theorem finishCompute_freq (s : State) : (finishCompute s).freq = s.freq := rfl
@[simp] theorem finishCompute_mode (s : State) : (finishCompute s).mode = s.mode := rfl
@[simp] theorem finishCompute_amp (s : State) : (finishCompute s).amp = s.amp := rfl
@[simp] theorem finishCompute_dither (s : State) : (finishCompute s).dither = s.dither := rfl
@[simp] theorem finishCompute_hd3amp (s : State) : (finishCompute s).hd3amp = s.hd3amp := rfl
@[simp] theorem finishCompute_hd3ph (s : State) : (finishCompute s).hd3ph = s.hd3ph := rfl
@[simp] theorem finishCompute_maxw (s : State) : (finishCompute s).maxw = s.maxw := rfl
@[simp] theorem finishCompute_seed (s : State) : (finishCompute s).seed = s.seed := rfl
@[simp] theorem finishCompute_nwords (s : State) : (finishCompute s).nwords = s.nwords := rfl
@[simp] theorem finishCompute_nperiods (s : State) : (finishCompute s).nperiods = s.nperiods := rfl
@[simp] theorem finishCompute_fexact (s : State) : (finishCompute s).fexact = s.fexact := rfl
@[simp] theorem finishCompute_clkdiv (s : State) : (finishCompute s).clkdiv = s.clkdiv := rfl
@[simp] theorem finishCompute_approxIter (s : State) : (finishCompute s).approxIter = s.approxIter := rfl
@[simp] theorem finishCompute_solvTnum (s : State) : (finishCompute s).solvTnum = s.solvTnum := rfl
@[simp] theorem finishCompute_solvTden (s : State) : (finishCompute s).solvTden = s.solvTden := rfl
@[simp] theorem finishCompute_solvQmax (s : State) : (finishCompute s).solvQmax = s.solvQmax := rfl
@[simp] theorem finishCompute_solvP (s : State) : (finishCompute s).solvP = s.solvP := rfl
@[simp] theorem finishCompute_solvQ (s : State) : (finishCompute s).solvQ = s.solvQ := rfl
@[simp] theorem finishCompute_solvIter (s : State) : (finishCompute s).solvIter = s.solvIter := rfl
@[simp] theorem finishCompute_mem (s : State) : (finishCompute s).mem = s.mem := rfl
@[simp] theorem finishCompute_dirty (s : State) : (finishCompute s).dirty = false := rfl
@[simp] theorem finishCompute_seq (s : State) : (finishCompute s).seq = .idle := rfl
@[simp] theorem finishCompute_poll (s : State) : (finishCompute s).poll = s.poll := rfl
@[simp] theorem finishCompute_fatal (s : State) : (finishCompute s).fatal = s.fatal := rfl
@[simp] theorem finishCompute_outputState (s : State) : (finishCompute s).outputState = s.outputState := rfl
@[simp] theorem finishCompute_ind (s : State) : (finishCompute s).ind = s.ind := rfl
@[simp] theorem finishCompute_armed (s : State) : (finishCompute s).armed = s.armed := rfl
@[simp] theorem finishCompute_abortReq (s : State) : (finishCompute s).abortReq = s.abortReq := rfl
@[simp] theorem finishCompute_irqPend (s : State) : (finishCompute s).irqPend = s.irqPend := rfl
@[simp] theorem finishCompute_engActive (s : State) : (finishCompute s).engActive = s.engActive := rfl
@[simp] theorem finishCompute_engBuf (s : State) : (finishCompute s).engBuf = s.engBuf := rfl
@[simp] theorem finishCompute_engWord (s : State) : (finishCompute s).engWord = s.engWord := rfl
@[simp] theorem finishCompute_engSlot (s : State) : (finishCompute s).engSlot = s.engSlot := rfl
@[simp] theorem finishCompute_pinOwn (s : State) : (finishCompute s).pinOwn = true := rfl
@[simp] theorem finishCompute_outsel (s : State) : (finishCompute s).outsel = s.outsel := rfl
@[simp] theorem finishCompute_filled (s : State) : (finishCompute s).filled = s.filled := rfl
@[simp] theorem finishCompute_trace (s : State) : (finishCompute s).trace = s.trace := rfl
@[simp] theorem finishCompute_rdata (s : State) : (finishCompute s).rdata = s.rdata := rfl
@[simp] theorem finishCompute_input (s : State) : (finishCompute s).input = s.input := rfl

/-! ### enterFatal -/

@[simp] theorem enterFatal_errCode (s : State) : (enterFatal s).errCode = if s.errValid then s.errCode else 8#4 := rfl
@[simp] theorem enterFatal_errOvf (s : State) : (enterFatal s).errOvf = (s.errOvf || s.errValid) := rfl
@[simp] theorem enterFatal_errValid (s : State) : (enterFatal s).errValid = true := rfl
@[simp] theorem enterFatal_txen (s : State) : (enterFatal s).txen = s.txen := rfl
@[simp] theorem enterFatal_inten (s : State) : (enterFatal s).inten = s.inten := rfl
@[simp] theorem enterFatal_intstat (s : State) : (enterFatal s).intstat = s.intstat ||| 1#4 := rfl
@[simp] theorem enterFatal_freq (s : State) : (enterFatal s).freq = s.freq := rfl
@[simp] theorem enterFatal_mode (s : State) : (enterFatal s).mode = s.mode := rfl
@[simp] theorem enterFatal_amp (s : State) : (enterFatal s).amp = s.amp := rfl
@[simp] theorem enterFatal_dither (s : State) : (enterFatal s).dither = s.dither := rfl
@[simp] theorem enterFatal_hd3amp (s : State) : (enterFatal s).hd3amp = s.hd3amp := rfl
@[simp] theorem enterFatal_hd3ph (s : State) : (enterFatal s).hd3ph = s.hd3ph := rfl
@[simp] theorem enterFatal_maxw (s : State) : (enterFatal s).maxw = s.maxw := rfl
@[simp] theorem enterFatal_seed (s : State) : (enterFatal s).seed = s.seed := rfl
@[simp] theorem enterFatal_nwords (s : State) : (enterFatal s).nwords = s.nwords := rfl
@[simp] theorem enterFatal_nperiods (s : State) : (enterFatal s).nperiods = s.nperiods := rfl
@[simp] theorem enterFatal_fexact (s : State) : (enterFatal s).fexact = s.fexact := rfl
@[simp] theorem enterFatal_clkdiv (s : State) : (enterFatal s).clkdiv = s.clkdiv := rfl
@[simp] theorem enterFatal_approxIter (s : State) : (enterFatal s).approxIter = s.approxIter := rfl
@[simp] theorem enterFatal_solvTnum (s : State) : (enterFatal s).solvTnum = s.solvTnum := rfl
@[simp] theorem enterFatal_solvTden (s : State) : (enterFatal s).solvTden = s.solvTden := rfl
@[simp] theorem enterFatal_solvQmax (s : State) : (enterFatal s).solvQmax = s.solvQmax := rfl
@[simp] theorem enterFatal_solvP (s : State) : (enterFatal s).solvP = s.solvP := rfl
@[simp] theorem enterFatal_solvQ (s : State) : (enterFatal s).solvQ = s.solvQ := rfl
@[simp] theorem enterFatal_solvIter (s : State) : (enterFatal s).solvIter = s.solvIter := rfl
@[simp] theorem enterFatal_mem (s : State) : (enterFatal s).mem = s.mem := rfl
@[simp] theorem enterFatal_dirty (s : State) : (enterFatal s).dirty = s.dirty := rfl
@[simp] theorem enterFatal_seq (s : State) : (enterFatal s).seq = .idle := rfl
@[simp] theorem enterFatal_poll (s : State) : (enterFatal s).poll = s.poll := rfl
@[simp] theorem enterFatal_fatal (s : State) : (enterFatal s).fatal = true := rfl
@[simp] theorem enterFatal_outputState (s : State) : (enterFatal s).outputState = s.outputState := rfl
@[simp] theorem enterFatal_ind (s : State) : (enterFatal s).ind = s.ind := rfl
@[simp] theorem enterFatal_armed (s : State) : (enterFatal s).armed = false := rfl
@[simp] theorem enterFatal_abortReq (s : State) : (enterFatal s).abortReq = s.abortReq := rfl
@[simp] theorem enterFatal_irqPend (s : State) : (enterFatal s).irqPend = s.irqPend := rfl
@[simp] theorem enterFatal_engActive (s : State) : (enterFatal s).engActive = s.engActive := rfl
@[simp] theorem enterFatal_engBuf (s : State) : (enterFatal s).engBuf = s.engBuf := rfl
@[simp] theorem enterFatal_engWord (s : State) : (enterFatal s).engWord = s.engWord := rfl
@[simp] theorem enterFatal_engSlot (s : State) : (enterFatal s).engSlot = s.engSlot := rfl
@[simp] theorem enterFatal_pinOwn (s : State) : (enterFatal s).pinOwn = false := rfl
@[simp] theorem enterFatal_outsel (s : State) : (enterFatal s).outsel = .noProgram := rfl
@[simp] theorem enterFatal_filled (s : State) : (enterFatal s).filled = s.filled := rfl
@[simp] theorem enterFatal_trace (s : State) : (enterFatal s).trace = s.trace := rfl
@[simp] theorem enterFatal_rdata (s : State) : (enterFatal s).rdata = s.rdata := rfl
@[simp] theorem enterFatal_input (s : State) : (enterFatal s).input = s.input := rfl

end Sys2Proof.Machine
end

