-- ==== Sys2Proof/Laws/Operations.lean ====
section
/-! SUPPORT. What each shared operation can do, said once: if it answers a next state, one of
these cases holds. Later proofs cite these and do not unfold the operation. -/

namespace Sys2Proof.Machine

theorem rejectAccess_cases {we : Bool} {c : ErrorCode} {s t : State}
    (h : rejectAccess we c s = .next t) :
    (we = true ∧ t = respond none (record c s)) ∨
      (we = false ∧ t = respond (some 0#32) (record c s)) := by
  cases we
  · exact .inr ⟨rfl, by simpa [rejectAccess, rejectRead] using h.symm⟩
  · exact .inl ⟨rfl, by simpa [rejectAccess, rejectWrite] using h.symm⟩

theorem bufferRead_cases {b : BitVec 2} {w : BitVec 14} {s t : State}
    (h : bufferRead b w s = .next t) :
    (Config.bufCap ≤ w.toNat ∧ t = respond (some 0#32) (record .badAddr s)) ∨
      (w.toNat < Config.bufCap ∧ s.seq ≠ .idle ∧
        t = respond (some 0#32) (record .busy s)) ∨
      (w.toNat < Config.bufCap ∧ s.seq = .idle ∧ s.filled = false ∧
        t = respond (some 0#32) (record .notFilled s)) ∨
      (w.toNat < Config.bufCap ∧ s.seq = .idle ∧ s.filled = true ∧
        t = respond (some (memRead s.mem b w.toNat)) s) := by
  unfold bufferRead rejectRead answer at h
  split at h
  · next hw => exact .inl ⟨hw, by simpa using h.symm⟩
  · next hw =>
    split at h
    · next hq => exact .inr (.inl ⟨by omega, hq, by simpa using h.symm⟩)
    · next hq =>
      split at h
      · next hf =>
        exact .inr (.inr (.inl ⟨by omega, by simpa using hq, hf, by simpa using h.symm⟩))
      · next hf =>
        exact .inr (.inr (.inr ⟨by omega, by simpa using hq, by simpa using hf,
          by simpa using h.symm⟩))

theorem bufferWrite_cases {w : BitVec 14} {s t : State} (h : bufferWrite w s = .next t) :
    (Config.bufCap ≤ w.toNat ∧ t = respond none (record .badAddr s)) ∨
      (w.toNat < Config.bufCap ∧ t = respond none (record .readonly s)) := by
  unfold bufferWrite rejectWrite at h
  split at h
  · next hw => exact .inl ⟨hw, by simpa using h.symm⟩
  · next hw => exact .inr ⟨by omega, by simpa using h.symm⟩

theorem configWrite_cases {legal : Bool} {written s t : State}
    (h : configWrite legal written s = .next t) :
    (s.seq ≠ .idle ∧ t = respond none (record .busy s)) ∨
      (s.seq = .idle ∧ legal = true ∧ t = respond none { written with dirty := true }) ∨
      (s.seq = .idle ∧ legal = false ∧ t = respond none (record .range s)) := by
  unfold configWrite rejectWrite accept at h
  split at h
  · next hq => exact .inl ⟨hq, by simpa using h.symm⟩
  · next hq =>
    cases legal
    · exact .inr (.inr ⟨by simpa using hq, rfl, by simpa using h.symm⟩)
    · exact .inr (.inl ⟨by simpa using hq, rfl, by simpa using h.symm⟩)

theorem commandGate_cases {r : Host.Outcome State Fault Refusal} {s t : State}
    (h : commandGate r s = .next t) :
    (s.fatal = true ∧ t = respond none (record .fatal s)) ∨
      (s.fatal = false ∧ s.seq ≠ .idle ∧ t = respond none (record .busy s)) ∨
      (s.fatal = false ∧ s.seq = .idle ∧ r = .next t) := by
  unfold commandGate rejectWrite at h
  split at h
  · next hf => exact .inl ⟨hf, by simpa using h.symm⟩
  · next hf =>
    split at h
    · next hq => exact .inr (.inl ⟨by simpa using hf, hq, by simpa using h.symm⟩)
    · next hq => exact .inr (.inr ⟨by simpa using hf, by simpa using hq, h⟩)

theorem applyStart_cases (s : State) :
    (s.dirty = false ∧ applyStart s = s) ∨
      (s.dirty = true ∧ s.armed = true ∧
        applyStart s =
          { s with armed := false, abortReq := true, poll := 0, seq := .halting }) ∨
      (s.dirty = true ∧ s.armed = false ∧ applyStart s = { s with seq := .computing }) := by
  unfold applyStart
  cases hd : s.dirty <;> cases ha : s.armed <;> simp

theorem advance_cases (s : State) :
    (s.engSlot.toNat < 15 ∧ advance s = { s with engSlot := s.engSlot + 1#4 }) ∨
      (15 ≤ s.engSlot.toNat ∧ s.engWord.toNat + 1 < s.nwords.toNat ∧
        advance s = { s with engSlot := 0#4, engWord := s.engWord + 1#15 }) ∨
      (15 ≤ s.engSlot.toNat ∧ s.nwords.toNat ≤ s.engWord.toNat + 1 ∧
        advance s = { stopEngine s with irqPend := true }) := by
  unfold advance
  split
  · next h => exact .inl ⟨h, rfl⟩
  · next h =>
    split
    · next hw => exact .inr (.inl ⟨by omega, hw, rfl⟩)
    · next hw => exact .inr (.inr ⟨by omega, by omega, rfl⟩)

theorem engEmit_cases {s t : State} (h : engEmit s = .next t) :
    (s.engActive = false ∧ t = s) ∨
      (s.engActive = true ∧ s.engWord.toNat < Config.bufCap ∧
        t = advance
          (emit (slotPair (memRead s.mem s.engBuf s.engWord.toNat) s.engSlot) s)) := by
  unfold engEmit at h
  split at h
  · next ha => exact .inl ⟨ha, by simpa using h.symm⟩
  · next ha =>
    split at h
    · cases h
    · next hw => exact .inr ⟨by simpa using ha, by omega, by simpa using h.symm⟩

theorem engAbort_cases (s : State) :
    (s.abortReq = false ∧ engAbort s = s) ∨
      (s.abortReq = true ∧ engAbort s = { stopEngine s with abortReq := false }) := by
  unfold engAbort
  cases h : s.abortReq <;> simp

theorem fsmStep_cases (s : State) :
    (s.irqPend = false ∧ fsmStep s = s) ∨
      (s.irqPend = true ∧ (s.armed = false ∨ s.engActive = true) ∧
        fsmStep s = { s with irqPend := false }) ∨
      (s.irqPend = true ∧ s.armed = true ∧ s.engActive = false ∧
        fsmStep s = chooseBuffer { s with irqPend := false }) := by
  unfold fsmStep
  cases hi : s.irqPend <;> cases ha : s.armed <;> cases he : s.engActive <;> simp

theorem seqPoll_cases (s : State) :
    (s.seq ≠ .halting ∧ seqPoll s = s) ∨
      (s.seq = .halting ∧ s.engActive = false ∧ s.abortReq = false ∧
        seqPoll s = { s with seq := .computing, poll := 0 }) ∨
      (s.seq = .halting ∧ (s.engActive = true ∨ s.abortReq = true) ∧
        s.poll + 1 = Config.abortPollMax ∧
        seqPoll s = enterFatal { s with poll := s.poll + 1 }) ∨
      (s.seq = .halting ∧ (s.engActive = true ∨ s.abortReq = true) ∧
        s.poll + 1 ≠ Config.abortPollMax ∧
        seqPoll s = { s with poll := s.poll + 1 }) := by
  unfold seqPoll pollAgain
  by_cases hq : s.seq = .halting
  · cases he : s.engActive <;> cases ha : s.abortReq <;>
      by_cases hp : s.poll + 1 = Config.abortPollMax <;> simp [hq, hp]
  · exact .inl ⟨hq, by simp [hq]⟩

theorem seqCompute_cases (s : State) :
    (s.seq ≠ .computing ∧ seqCompute s = s) ∨
      (s.seq = .computing ∧ s.mode = 0#3 ∧ seqCompute s = computeClockDivider s) ∨
      (s.seq = .computing ∧ s.mode ≠ 0#3 ∧ seqCompute s = computeBuffers s) := by
  unfold seqCompute
  by_cases hq : s.seq = .computing <;> by_cases hm : s.mode = 0#3 <;> simp [hq, hm]

theorem solverPass_cases {x y qmax : Int} {k k' : Brackets}
    (h : solverPass x y qmax k = some k') :
    k.b + k.d ≤ qmax ∧
      (((k.a + k.c) * y ≤ x * (k.b + k.d) ∧ leftPass x y qmax k = some k') ∨
        (x * (k.b + k.d) < (k.a + k.c) * y ∧ rightPass x y qmax k = some k')) := by
  unfold solverPass at h
  split at h
  · cases h
  · next hq =>
    refine ⟨by omega, ?_⟩
    split at h
    · next hl => exact .inl ⟨hl, h⟩
    · next hl => exact .inr ⟨by omega, h⟩

/-- One step takes the first turn of the schedule. -/
theorem step_cases {s t : State} (h : step s = .next t) :
    (s.input = [] ∧ t = s) ∨
      (∃ tw rest, s.input = .host tw :: rest ∧
        exec (decodeTw tw) (withInput rest s) = .next t) ∨
      (∃ a rest, s.input = .agent a :: rest ∧ agentStep a (withInput rest s) = .next t) ∨
      (∃ rest, s.input = .reset :: rest ∧ t = withInput rest State.reset) := by
  unfold step at h
  split at h
  · next he => exact .inl ⟨he, by simpa using h.symm⟩
  · next tw rest he => exact .inr (.inl ⟨tw, rest, he, h⟩)
  · next a rest he => exact .inr (.inr (.inl ⟨a, rest, he, h⟩))
  · next rest he =>
    exact .inr (.inr (.inr ⟨rest, he, by simpa [resetBlock] using h.symm⟩))

end Sys2Proof.Machine
end

