-- ==== Sys2Proof/Laws/Params.lean ====
section
/-! SUPPORT. The ranges of the parameters (00_scope.md R4) and the bound of the sine
(42_waveform_fill.md R244). -/

namespace Sys2Proof

theorem Config.two_le_bufCap : 2 ≤ Config.bufCap := Nat.le_add_left _ _

theorem Config.bufCap_le : Config.bufCap ≤ 16384 := by
  have := Nat.min_le_right Config.bufCapChoice 16382
  unfold Config.bufCap; omega

theorem Config.cpuHz_ge : 1000000 ≤ Config.cpuHz := Nat.le_max_left _ _

theorem Config.cpuHz_le : Config.cpuHz ≤ 1073741823 := by
  unfold Config.cpuHz; omega

theorem Config.one_le_abortPollMax : 1 ≤ Config.abortPollMax := Nat.le_add_left _ _

namespace Machine

/-- Every turn value is in the first half turn or the negative of one that is. -/
theorem sine_shape_abs_le {sin : Word → Int} (h : SineShape sin) (u : Word) :
    |sin u| ≤ q30 := by
  have first : ∀ v : Word, v ≤ 0x40000000#32 → 0 ≤ sin v ∧ sin v ≤ q30 := fun v hv =>
    ⟨h.at_zero ▸ h.rising 0#32 v (by bv_omega) hv,
      (h.rising v _ hv (BitVec.le_refl _)).trans h.at_quarter.le⟩
  have half : ∀ v : Word, v ≤ 0x80000000#32 → 0 ≤ sin v ∧ sin v ≤ q30 := by
    intro v hv
    by_cases hq : v ≤ 0x40000000#32
    · exact first v hq
    · rw [← h.quarter_symmetric v hv]
      exact first _ (by bv_omega)
  by_cases hu : u ≤ 0x80000000#32
  · exact abs_le.2 ⟨by have := (half u hu).1; unfold q30; omega, (half u hu).2⟩
  · have hn := half (-u) (by bv_omega)
    rw [h.odd u] at hn
    exact abs_le.2 ⟨by omega, by have := hn.1; unfold q30; omega⟩

theorem sineQuadrant_bounds (v : Nat) : 0 ≤ sineQuadrant v ∧ sineQuadrant v ≤ q30 :=
  ⟨le_max_left _ _, max_le (by decide) (min_le_right _ _)⟩

theorem sineRef_abs_le (u : Word) : |sineRef u| ≤ q30 := by
  have h := sineQuadrant_bounds
  unfold sineRef
  simp only
  split
  · exact abs_le.2 ⟨by have := (h u.toNat).1; unfold q30; omega, (h _).2⟩
  split
  · exact abs_le.2 ⟨by have := (h (2 ^ 31 - u.toNat)).1; unfold q30; omega, (h _).2⟩
  split
  · rw [abs_neg]
    exact abs_le.2 ⟨by have := (h (u.toNat - 2 ^ 31)).1; unfold q30; omega, (h _).2⟩
  · rw [abs_neg]
    exact abs_le.2 ⟨by have := (h (2 ^ 32 - u.toNat)).1; unfold q30; omega, (h _).2⟩

/-- SIN stays in Q1.30's unit range, whatever the open choice (R244). -/
theorem sine_abs_le (u : Word) : |sine u| ≤ q30 := by
  unfold sine
  split
  · next sin _ => exact sine_shape_abs_le sin.property.toSineShape u
  · exact sineRef_abs_le u

end Machine

end Sys2Proof
end

