-- ==== Sys2Proof/Laws/PerInstr.lean ====
section
/-! SUPPORT. Per-instruction facts for all operations: step 1 of 30_encoding.md R112 tells the
MISALIGNED words from all others. -/

namespace Sys2Proof.Laws.StepOneOfDecoding

/-- The operation is MISALIGNED. -/
def isMisaligned : Instr → Bool
  | .misaligned _ _ _ => true
  | _ => false

/-- A well-formed operation's word is a word access to an aligned address exactly when the
operation is not MISALIGNED. -/
def Statement (i : Instr) : Prop :=
  i.wf = true →
    ((twSize (encode i) = sizeWord ∧ addrLow (twAddr (encode i)) = 0#2) ↔
      isMisaligned i = false)

/-- The word at a fixed aligned address, whatever it carries. -/
theorem aligned_word (we : Bool) {addr : BusAddr} (wdata : Word) (h : addrLow addr = 0#2) :
    twSize (twOf we sizeWord addr wdata) = sizeWord ∧
      addrLow (twAddr (twOf we sizeWord addr wdata)) = 0#2 := by
  rw [twSize_twOf, twAddr_twOf]; exact ⟨rfl, h⟩

/-- The address of a buffer word is aligned. -/
theorem addrLow_buffer (bank : BitVec 3) (w : BitVec 14) :
    addrLow (bank ++ w ++ 0#2 : BusAddr) = 0#2 := by
  apply BitVec.eq_of_getLsbD_eq
  intro i hi
  simp only [addrLow, BitVec.getLsbD_extractLsb', BitVec.getLsbD_append]
  simp [hi]

/-- The two forms of alignment agree. -/
theorem addrLow_eq_zero_iff (addr : BusAddr) : addrLow addr = 0#2 ↔ alignedAddr addr = true := by
  unfold addrLow alignedAddr
  rw [← BitVec.toNat_inj, beq_iff_eq]
  simp

theorem rdId : Statement (.rdId) := fun _ =>
  iff_of_true (aligned_word _ _ (by decide)) rfl

theorem rdStatus : Statement (.rdStatus) := fun _ =>
  iff_of_true (aligned_word _ _ (by decide)) rfl

theorem rdErr : Statement (.rdErr) := fun _ =>
  iff_of_true (aligned_word _ _ (by decide)) rfl

theorem rdCmd : Statement (.rdCmd) := fun _ =>
  iff_of_true (aligned_word _ _ (by decide)) rfl

theorem rdTxen : Statement (.rdTxen) := fun _ =>
  iff_of_true (aligned_word _ _ (by decide)) rfl

theorem rdInten : Statement (.rdInten) := fun _ =>
  iff_of_true (aligned_word _ _ (by decide)) rfl

theorem rdIntstat : Statement (.rdIntstat) := fun _ =>
  iff_of_true (aligned_word _ _ (by decide)) rfl

theorem rdFreq : Statement (.rdFreq) := fun _ =>
  iff_of_true (aligned_word _ _ (by decide)) rfl

theorem rdMode : Statement (.rdMode) := fun _ =>
  iff_of_true (aligned_word _ _ (by decide)) rfl

theorem rdAmp : Statement (.rdAmp) := fun _ =>
  iff_of_true (aligned_word _ _ (by decide)) rfl

theorem rdDither : Statement (.rdDither) := fun _ =>
  iff_of_true (aligned_word _ _ (by decide)) rfl

theorem rdHd3amp : Statement (.rdHd3amp) := fun _ =>
  iff_of_true (aligned_word _ _ (by decide)) rfl

theorem rdHd3ph : Statement (.rdHd3ph) := fun _ =>
  iff_of_true (aligned_word _ _ (by decide)) rfl

theorem rdMaxw : Statement (.rdMaxw) := fun _ =>
  iff_of_true (aligned_word _ _ (by decide)) rfl

theorem rdSeed : Statement (.rdSeed) := fun _ =>
  iff_of_true (aligned_word _ _ (by decide)) rfl

theorem rdNwords : Statement (.rdNwords) := fun _ =>
  iff_of_true (aligned_word _ _ (by decide)) rfl

theorem rdNperiods : Statement (.rdNperiods) := fun _ =>
  iff_of_true (aligned_word _ _ (by decide)) rfl

theorem rdFexact : Statement (.rdFexact) := fun _ =>
  iff_of_true (aligned_word _ _ (by decide)) rfl

theorem rdClkdiv : Statement (.rdClkdiv) := fun _ =>
  iff_of_true (aligned_word _ _ (by decide)) rfl

theorem rdApproxIter : Statement (.rdApproxIter) := fun _ =>
  iff_of_true (aligned_word _ _ (by decide)) rfl

theorem rdSolvTnum : Statement (.rdSolvTnum) := fun _ =>
  iff_of_true (aligned_word _ _ (by decide)) rfl

theorem rdSolvTden : Statement (.rdSolvTden) := fun _ =>
  iff_of_true (aligned_word _ _ (by decide)) rfl

theorem rdSolvQmax : Statement (.rdSolvQmax) := fun _ =>
  iff_of_true (aligned_word _ _ (by decide)) rfl

theorem rdSolvP : Statement (.rdSolvP) := fun _ =>
  iff_of_true (aligned_word _ _ (by decide)) rfl

theorem rdSolvQ : Statement (.rdSolvQ) := fun _ =>
  iff_of_true (aligned_word _ _ (by decide)) rfl

theorem rdSolvIter : Statement (.rdSolvIter) := fun _ =>
  iff_of_true (aligned_word _ _ (by decide)) rfl

theorem rdParamCap : Statement (.rdParamCap) := fun _ =>
  iff_of_true (aligned_word _ _ (by decide)) rfl

theorem rdParamCpu : Statement (.rdParamCpu) := fun _ =>
  iff_of_true (aligned_word _ _ (by decide)) rfl

theorem wrRoId : Statement (.wrRoId) := fun _ =>
  iff_of_true (aligned_word _ _ (by decide)) rfl

theorem wrRoStatus : Statement (.wrRoStatus) := fun _ =>
  iff_of_true (aligned_word _ _ (by decide)) rfl

theorem wrErr (wdata : Word) : Statement (.wrErr wdata) := fun _ =>
  iff_of_true (aligned_word _ _ (by decide)) rfl

theorem cmdApply : Statement (.cmdApply) := fun _ =>
  iff_of_true (aligned_word _ _ (by decide)) rfl

theorem cmdRestorePins : Statement (.cmdRestorePins) := fun _ =>
  iff_of_true (aligned_word _ _ (by decide)) rfl

theorem cmdSolve : Statement (.cmdSolve) := fun _ =>
  iff_of_true (aligned_word _ _ (by decide)) rfl

theorem wrTxen (wdata : Word) : Statement (.wrTxen wdata) := fun _ =>
  iff_of_true (aligned_word _ _ (by decide)) rfl

theorem wrInten (wdata : Word) : Statement (.wrInten wdata) := fun _ =>
  iff_of_true (aligned_word _ _ (by decide)) rfl

theorem wrIntstat (wdata : Word) : Statement (.wrIntstat wdata) := fun _ =>
  iff_of_true (aligned_word _ _ (by decide)) rfl

theorem wrFreq (wdata : Word) : Statement (.wrFreq wdata) := fun _ =>
  iff_of_true (aligned_word _ _ (by decide)) rfl

theorem wrMode (wdata : Word) : Statement (.wrMode wdata) := fun _ =>
  iff_of_true (aligned_word _ _ (by decide)) rfl

theorem wrAmp (wdata : Word) : Statement (.wrAmp wdata) := fun _ =>
  iff_of_true (aligned_word _ _ (by decide)) rfl

theorem wrDither (wdata : Word) : Statement (.wrDither wdata) := fun _ =>
  iff_of_true (aligned_word _ _ (by decide)) rfl

theorem wrHd3amp (wdata : Word) : Statement (.wrHd3amp wdata) := fun _ =>
  iff_of_true (aligned_word _ _ (by decide)) rfl

theorem wrHd3ph (wdata : Word) : Statement (.wrHd3ph wdata) := fun _ =>
  iff_of_true (aligned_word _ _ (by decide)) rfl

theorem wrMaxw (wdata : Word) : Statement (.wrMaxw wdata) := fun _ =>
  iff_of_true (aligned_word _ _ (by decide)) rfl

theorem wrSeed (wdata : Word) : Statement (.wrSeed wdata) := fun _ =>
  iff_of_true (aligned_word _ _ (by decide)) rfl

theorem wrRoNwords : Statement (.wrRoNwords) := fun _ =>
  iff_of_true (aligned_word _ _ (by decide)) rfl

theorem wrRoNperiods : Statement (.wrRoNperiods) := fun _ =>
  iff_of_true (aligned_word _ _ (by decide)) rfl

theorem wrRoFexact : Statement (.wrRoFexact) := fun _ =>
  iff_of_true (aligned_word _ _ (by decide)) rfl

theorem wrRoClkdiv : Statement (.wrRoClkdiv) := fun _ =>
  iff_of_true (aligned_word _ _ (by decide)) rfl

theorem wrRoApproxIter : Statement (.wrRoApproxIter) := fun _ =>
  iff_of_true (aligned_word _ _ (by decide)) rfl

theorem wrSolvTnum (wdata : Word) : Statement (.wrSolvTnum wdata) := fun _ =>
  iff_of_true (aligned_word _ _ (by decide)) rfl

theorem wrSolvTden (wdata : Word) : Statement (.wrSolvTden wdata) := fun _ =>
  iff_of_true (aligned_word _ _ (by decide)) rfl

theorem wrSolvQmax (wdata : Word) : Statement (.wrSolvQmax wdata) := fun _ =>
  iff_of_true (aligned_word _ _ (by decide)) rfl

theorem wrRoSolvP : Statement (.wrRoSolvP) := fun _ =>
  iff_of_true (aligned_word _ _ (by decide)) rfl

theorem wrRoSolvQ : Statement (.wrRoSolvQ) := fun _ =>
  iff_of_true (aligned_word _ _ (by decide)) rfl

theorem wrRoSolvIter : Statement (.wrRoSolvIter) := fun _ =>
  iff_of_true (aligned_word _ _ (by decide)) rfl

theorem wrRoParamCap : Statement (.wrRoParamCap) := fun _ =>
  iff_of_true (aligned_word _ _ (by decide)) rfl

theorem wrRoParamCpu : Statement (.wrRoParamCpu) := fun _ =>
  iff_of_true (aligned_word _ _ (by decide)) rfl

theorem rdBufSilent (w : BitVec 14) : Statement (.rdBufSilent w) := fun _ =>
  iff_of_true (aligned_word _ _ (addrLow_buffer _ _)) rfl

theorem rdBufSteady (w : BitVec 14) : Statement (.rdBufSteady w) := fun _ =>
  iff_of_true (aligned_word _ _ (addrLow_buffer _ _)) rfl

theorem rdBufRampup (w : BitVec 14) : Statement (.rdBufRampup w) := fun _ =>
  iff_of_true (aligned_word _ _ (addrLow_buffer _ _)) rfl

theorem rdBufRampdown (w : BitVec 14) : Statement (.rdBufRampdown w) := fun _ =>
  iff_of_true (aligned_word _ _ (addrLow_buffer _ _)) rfl

theorem wrRoBufSilent (w : BitVec 14) : Statement (.wrRoBufSilent w) := fun _ =>
  iff_of_true (aligned_word _ _ (addrLow_buffer _ _)) rfl

theorem wrRoBufSteady (w : BitVec 14) : Statement (.wrRoBufSteady w) := fun _ =>
  iff_of_true (aligned_word _ _ (addrLow_buffer _ _)) rfl

theorem wrRoBufRampup (w : BitVec 14) : Statement (.wrRoBufRampup w) := fun _ =>
  iff_of_true (aligned_word _ _ (addrLow_buffer _ _)) rfl

theorem wrRoBufRampdown (w : BitVec 14) : Statement (.wrRoBufRampdown w) := fun _ =>
  iff_of_true (aligned_word _ _ (addrLow_buffer _ _)) rfl

theorem cmdReserved (wdata : Word) : Statement (.cmdReserved wdata) := fun _ =>
  iff_of_true (aligned_word _ _ (by decide)) rfl

theorem misaligned (we : Bool) (size : BitVec 2) (addr : BusAddr) :
    Statement (.misaligned we size addr) := by
  intro h
  rw [encode, twSize_twOf, twAddr_twOf, addrLow_eq_zero_iff]
  simp only [Instr.wf, Bool.or_eq_true, bne_iff_ne, Bool.not_eq_true'] at h
  simp only [isMisaligned, Bool.true_eq_false, iff_false, not_and, Bool.not_eq_true]
  exact fun hs => h.resolve_left (fun hn => hn hs)

theorem unmapped (we : Bool) (addr : BusAddr) : Statement (.unmapped we addr) := by
  intro h
  simp only [Instr.wf, Bool.and_eq_true] at h
  exact iff_of_true (aligned_word _ _ ((addrLow_eq_zero_iff addr).2 h.1)) rfl

end Sys2Proof.Laws.StepOneOfDecoding
end

