-- ==== Sys2Proof/Tests/Slice0.lean ====
section
/-! SUPPORT. Small tests with expected results from the spec (95_test_vectors.md where no other
place is named), and a witness for the hypotheses of every statement that has any. -/

namespace Sys2Proof.Tests

open Sys2Proof Sys2Proof.Machine

/-! ## Helpers -/

/-- What `f` says of the next state. -/
def after {α : Type} (o : Host.Outcome State Fault Refusal) (f : State → α) : Option α :=
  match o with
  | .next t => some (f t)
  | _ => none

/-- One step whose turn is this host transaction. -/
def issue (tw : TransWord) (s : State) : Host.Outcome State Fault Refusal :=
  step { s with input := [.host tw] }

/-- ERR as a host reads it, after a host transaction. -/
def errAfter (tw : TransWord) (s : State) : Option Word := after (issue tw s) errView

/-- One step whose turn is this agent's. -/
def turn (a : AgentStep) (s : State) : Host.Outcome State Fault Refusal :=
  step { s with input := [.agent a] }

/-- In a halt, the engine still active (44_controller.md R344). -/
def halting : State :=
  { State.reset with
    seq := .halting, abortReq := true, engActive := true, filled := true, outsel := .serial,
    nwords := 1#15, pinOwn := true }

/-- In FATAL (44_controller.md R348). -/
def inFatal : State :=
  { State.reset with fatal := true, abortReq := true, poll := Config.abortPollMax }

/-- The compute step is next, in mode 0. -/
def computingZero : State := { State.reset with seq := .computing, mode := 0#3 }

/-- The engine plays one word of the steady buffer, STATE Transmitting. -/
def playing : State :=
  { State.reset with
    armed := true, filled := true, outsel := .serial, nwords := 1#15, engActive := true,
    engBuf := 1#2, outputState := .transmitting, ind := true, pinOwn := true, dirty := false,
    txen := true, mem := [(0x20000, 0x65#8)] }

/-- A buffer has completed; the FSM step is next. -/
def completed : State := { playing with engActive := false, irqPend := true }

/-- The FILL input of configuration A. -/
def configA (mode : BitVec 3) : FillInput :=
  ⟨2, 1, 0x10000#18, 0#18, 0#32, 0#32, mode, 0x9E3779B9#32⟩

/-- A sine of the shape of 42_waveform_fill.md R244 (a) to (d): a triangle. -/
def triangle (u : Word) : Int :=
  if u.toNat ≤ 2 ^ 30 then u.toNat
  else if u.toNat ≤ 3 * 2 ^ 30 then 2 ^ 31 - (u.toNat : Int)
  else u.toNat - 2 ^ 32

/-! ## Well-formedness: each check refuses an ill-formed operation -/

/-- R115, R116: a command code is no reserved value. -/
theorem test_wf_cmd_reserved :
    Instr.wf (.cmdReserved 1#32) = false ∧ Instr.wf (.cmdReserved 2#32) = false ∧
      Instr.wf (.cmdReserved 3#32) = false ∧ Instr.wf (.cmdReserved 4#32) = true := by
  decide

/-- R112 step 1: an aligned word access is not MISALIGNED. -/
theorem test_wf_misaligned :
    Instr.wf (.misaligned false 2#2 0x4#19) = false ∧
      Instr.wf (.misaligned true 2#2 0x1E#19) = true ∧
      Instr.wf (.misaligned false 1#2 0x4#19) = true := by
  decide

/-- R112 step 4: UNMAPPED is aligned and outside the map of R86. -/
theorem test_wf_unmapped :
    Instr.wf (.unmapped false 0x20#19) = false ∧ Instr.wf (.unmapped true 0x4FFFC#19) = false ∧
      Instr.wf (.unmapped false 0x1E#19) = false ∧ Instr.wf (.unmapped false 0x1C#19) = true ∧
      Instr.wf (.unmapped false 0x50000#19) = true := by
  decide

/-! ## Decoding: words written out from 30_encoding.md -/

/-- R113, the read column, offsets 0x000 to 0x038. -/
theorem test_decode_reads_first :
    decodeTw 0x0010000000000000#54 = .rdId ∧
      decodeTw 0x0010000400000000#54 = .rdStatus ∧
      decodeTw 0x0010000800000000#54 = .rdErr ∧
      decodeTw 0x0010000C00000000#54 = .rdCmd ∧
      decodeTw 0x0010001000000000#54 = .rdTxen ∧
      decodeTw 0x0010001400000000#54 = .rdInten ∧
      decodeTw 0x0010001800000000#54 = .rdIntstat ∧
      decodeTw 0x0010002000000000#54 = .rdFreq ∧
      decodeTw 0x0010002400000000#54 = .rdMode ∧
      decodeTw 0x0010002800000000#54 = .rdAmp ∧
      decodeTw 0x0010002C00000000#54 = .rdDither ∧
      decodeTw 0x0010003000000000#54 = .rdHd3amp ∧
      decodeTw 0x0010003400000000#54 = .rdHd3ph ∧
      decodeTw 0x0010003800000000#54 = .rdMaxw := by
  decide

/-- R113, the read column, offsets 0x03C to 0x07C. -/
theorem test_decode_reads_rest :
    decodeTw 0x0010003C00000000#54 = .rdSeed ∧
      decodeTw 0x0010004000000000#54 = .rdNwords ∧
      decodeTw 0x0010004400000000#54 = .rdNperiods ∧
      decodeTw 0x0010004800000000#54 = .rdFexact ∧
      decodeTw 0x0010004C00000000#54 = .rdClkdiv ∧
      decodeTw 0x0010005000000000#54 = .rdApproxIter ∧
      decodeTw 0x0010006000000000#54 = .rdSolvTnum ∧
      decodeTw 0x0010006400000000#54 = .rdSolvTden ∧
      decodeTw 0x0010006800000000#54 = .rdSolvQmax ∧
      decodeTw 0x0010006C00000000#54 = .rdSolvP ∧
      decodeTw 0x0010007000000000#54 = .rdSolvQ ∧
      decodeTw 0x0010007400000000#54 = .rdSolvIter ∧
      decodeTw 0x0010007800000000#54 = .rdParamCap ∧
      decodeTw 0x0010007C00000000#54 = .rdParamCpu := by
  decide

/-- R113, the write column: the whole WDATA is the operand (R119). -/
theorem test_decode_writes :
    decodeTw 0x0030000880000000#54 = .wrErr 0x80000000#32 ∧
      decodeTw 0x0030001000000001#54 = .wrTxen 0x1#32 ∧
      decodeTw 0x00300014000000FF#54 = .wrInten 0xFF#32 ∧
      decodeTw 0x003000180000000F#54 = .wrIntstat 0xF#32 ∧
      decodeTw 0x0030002001E84800#54 = .wrFreq 0x1E84800#32 ∧
      decodeTw 0x0030002400000004#54 = .wrMode 0x4#32 ∧
      decodeTw 0x0030002800008000#54 = .wrAmp 0x8000#32 ∧
      decodeTw 0x0030002C00020000#54 = .wrDither 0x20000#32 ∧
      decodeTw 0x00300030FFFF8000#54 = .wrHd3amp 0xFFFF8000#32 ∧
      decodeTw 0x00300034E38E38E4#54 = .wrHd3ph 0xE38E38E4#32 ∧
      decodeTw 0x0030003800002710#54 = .wrMaxw 0x2710#32 ∧
      decodeTw 0x0030003C12345678#54 = .wrSeed 0x12345678#32 ∧
      decodeTw 0x003000601C2DB4BF#54 = .wrSolvTnum 0x1C2DB4BF#32 ∧
      decodeTw 0x003000643B9ACA00#54 = .wrSolvTden 0x3B9ACA00#32 ∧
      decodeTw 0x00300068000F4240#54 = .wrSolvQmax 0xF4240#32 := by
  decide

/-- R113, writes to read-only registers; the last with WDATA all ones, ignored. -/
theorem test_decode_read_only :
    decodeTw 0x0030000000000000#54 = .wrRoId ∧
      decodeTw 0x0030000400000000#54 = .wrRoStatus ∧
      decodeTw 0x0030004000000000#54 = .wrRoNwords ∧
      decodeTw 0x0030004400000000#54 = .wrRoNperiods ∧
      decodeTw 0x0030004800000000#54 = .wrRoFexact ∧
      decodeTw 0x0030004C00000000#54 = .wrRoClkdiv ∧
      decodeTw 0x0030005000000000#54 = .wrRoApproxIter ∧
      decodeTw 0x0030006C00000000#54 = .wrRoSolvP ∧
      decodeTw 0x0030007000000000#54 = .wrRoSolvQ ∧
      decodeTw 0x0030007400000000#54 = .wrRoSolvIter ∧
      decodeTw 0x0030007800000000#54 = .wrRoParamCap ∧
      decodeTw 0x0030007CFFFFFFFF#54 = .wrRoParamCpu := by
  decide

/-- R114: bank 1 to 4, word index in ADDR bits 15:2. -/
theorem test_decode_buffers :
    decodeTw 0x0011000400000000#54 = .rdBufSilent 0x1#14 ∧
      decodeTw 0x0012055400000000#54 = .rdBufSteady 0x155#14 ∧
      decodeTw 0x0013AAA800000000#54 = .rdBufRampup 0x2AAA#14 ∧
      decodeTw 0x0014FFFC00000000#54 = .rdBufRampdown 0x3FFF#14 ∧
      decodeTw 0x0031000400000000#54 = .wrRoBufSilent 0x1#14 ∧
      decodeTw 0x0032055400000000#54 = .wrRoBufSteady 0x155#14 ∧
      decodeTw 0x0033AAA800000000#54 = .wrRoBufRampup 0x2AAA#14 ∧
      decodeTw 0x0034FFFC00000000#54 = .wrRoBufRampdown 0x3FFF#14 := by
  decide

/-- R115, R116. -/
theorem test_decode_commands :
    decodeTw 0x0030000C00000001#54 = .cmdApply ∧
      decodeTw 0x0030000C00000002#54 = .cmdRestorePins ∧
      decodeTw 0x0030000C00000003#54 = .cmdSolve ∧
      decodeTw 0x0030000C00000000#54 = .cmdReserved 0#32 ∧
      decodeTw 0x0030000C80000001#54 = .cmdReserved 0x80000001#32 := by
  decide

/-- R112 step 1: a halfword, SIZE 0b11, a word at 0x006, and ALIGN before UNMAPPED (95_test_vectors.md 2.6). -/
theorem test_decode_misaligned :
    decodeTw 0x0008000400000000#54 = .misaligned false 1#2 0x4#19 ∧
      decodeTw 0x0018000000000000#54 = .misaligned false 3#2 0#19 ∧
      decodeTw 0x0010000600000000#54 = .misaligned false 2#2 0x6#19 ∧
      decodeTw 0x0030001E00000000#54 = .misaligned true 2#2 0x1E#19 := by
  decide

/-- R112 step 4, R86 (95_test_vectors.md 2.6); a write to the hole at 0x05C. -/
theorem test_decode_unmapped :
    decodeTw 0x0010001C00000000#54 = .unmapped false 0x1C#19 ∧
      decodeTw 0x0010008000000000#54 = .unmapped false 0x80#19 ∧
      decodeTw 0x0015000000000000#54 = .unmapped false 0x50000#19 ∧
      decodeTw 0x0030005C00000007#54 = .unmapped true 0x5C#19 := by
  decide

/-- The words of 95_test_vectors.md 2.6 from the encoder's side. -/
theorem test_encode :
    encode (.wrFreq 32000000#32) = 0x0030002001E84800#54 ∧
      encode .cmdSolve = 0x0030000C00000003#54 ∧
      encode (.rdBufRampdown 1#14) = 0x0014000400000000#54 ∧
      encode (.wrRoBufSteady 2#14) = 0x0032000800000000#54 ∧
      encode (.misaligned false 3#2 0#19) = 0x0018000000000000#54 := by
  decide

/-- The host's question about a table row: decoding and the first step after reset. -/
theorem test_table_word :
    decodeTableWord 56 0x0010000000000000 = some .rdId ∧ decodeTableWord 56 (2 ^ 54) = none ∧
      after (step (State.reset.withFetchWord 54 0x0010000000000000)) State.rdata =
        some (some 0x57514531#32) := by
  decide

/-! ## Host transactions from reset (95_test_vectors.md 2.6) -/

theorem test_read_id_status_cmd :
    after (issue 0x0010000000000000#54 .reset) State.rdata = some (some 0x57514531#32) ∧
      after (issue 0x0010000400000000#54 .reset) State.rdata = some (some 0x00000001#32) ∧
      after (issue 0x0010000C00000000#54 .reset) State.rdata = some (some 0#32) := by
  decide

/-- 10_state.md R23: STATUS in the middle of a played buffer, Program 2 line 5 with TXEN set. -/
theorem test_status_playing : statusView playing = 0x0004B2F0#32 := by decide

theorem test_writes_out_of_range :
    errAfter 0x0030002400000006#54 .reset = some 0x80000001#32 ∧
      errAfter 0x003000200061A7FF#54 .reset = some 0x80000001#32 ∧
      errAfter 0x003000204C4B4001#54 .reset = some 0x80000001#32 ∧
      errAfter 0x0030002800020001#54 .reset = some 0x80000001#32 ∧
      errAfter 0x0030002C00030000#54 .reset = some 0x80000001#32 ∧
      errAfter 0x0030003000008001#54 .reset = some 0x80000001#32 ∧
      errAfter 0x0030003800000001#54 .reset = some 0x80000001#32 ∧
      errAfter 0x0030003800002711#54 .reset = some 0x80000001#32 ∧
      errAfter 0x0030003C00000000#54 .reset = some 0x80000001#32 ∧
      errAfter 0x0030006400000000#54 .reset = some 0x80000001#32 := by
  decide

theorem test_writes_accepted :
    after (issue 0x00300030FFFF8000#54 .reset) State.hd3amp = some 0xFFFF8000#32 ∧
      after (issue 0x00300034E38E38E4#54 .reset) State.hd3ph = some 0xE38E38E4#32 ∧
      after (issue 0x0030003800002710#54 .reset) State.maxw = some 10000#14 ∧
      after (issue 0x0030002001E84800#54 .reset) State.freq = some 32000000#32 ∧
      after (issue 0x00300010FFFFFFFF#54 .reset) State.txen = some true ∧
      after (issue 0x00300014000000FF#54 .reset) State.inten = some 0xF#4 := by
  decide

theorem test_rejections :
    errAfter 0x0030000C00000000#54 .reset = some 0x80000006#32 ∧
      errAfter 0x0030000C00000004#54 .reset = some 0x80000006#32 ∧
      errAfter 0x0030004000000005#54 .reset = some 0x80000005#32 ∧
      errAfter 0x0010001C00000000#54 .reset = some 0x80000003#32 ∧
      errAfter 0x0008000400000000#54 .reset = some 0x80000004#32 ∧
      errAfter 0x0030001E00000000#54 .reset = some 0x80000004#32 := by
  decide

/-- 60_exceptions.md R452: the first code is kept, OVF is set. -/
theorem test_second_error_sets_ovf :
    errAfter 0x0030002800030000#54 (rejectedWrite .range .reset) = some 0xC0000001#32 := by
  decide

theorem test_err_clear :
    errAfter 0x003000087FFFFFFF#54 (rejectedWrite .range .reset) = some 0x80000001#32 ∧
      errAfter 0x0030000880000000#54 (rejectedWrite .range .reset) = some 0#32 := by
  decide

/-- The phase-dependent vectors: in HALTING. -/
theorem test_while_halting :
    errAfter 0x0030002001E84800#54 halting = some 0x80000002#32 ∧
      errAfter 0x0030004000000001#54 halting = some 0x80000005#32 ∧
      errAfter 0x0030000C00000003#54 halting = some 0x80000002#32 ∧
      after (issue 0x0030001000000001#54 halting) State.txen = some true := by
  decide

/-- The phase-dependent vectors: in FATAL. -/
theorem test_while_fatal :
    errAfter 0x0030000C00000007#54 inFatal = some 0x80000009#32 ∧
      errAfter 0x0030000C00000002#54 inFatal = some 0x80000009#32 ∧
      after (issue 0x0030002800008000#54 inFatal) (fun t => (t.amp, t.dirty)) =
        some (0x8000#18, true) := by
  decide

theorem test_buffer_read :
    after (exec (.rdBufSteady 0#14) { playing with input := [] }) State.rdata =
        some (some 0x65#32) ∧
      after (exec (.rdBufSteady 0#14) State.reset) errView = some 0x80000007#32 ∧
      after (exec (.rdBufSilent 0#14) halting) errView = some 0x80000002#32 ∧
      after (exec (.wrRoBufSteady 0#14) State.reset) errView = some 0x80000005#32 := by
  have h := Config.two_le_bufCap
  have h0 : ¬(0 ≥ Config.bufCap) := by omega
  refine ⟨?_, ?_, ?_, ?_⟩ <;>
    simp only [exec, execRdBufSteady, execRdBufSilent, execWrRoBufSteady, bufferRead,
      bufferWrite, BitVec.toNat_ofNat, Nat.zero_mod, h0, if_false] <;> rfl

/-- 44_controller.md R344 and Program 1 line 7: the halt start and the direct start. -/
theorem test_apply :
    after (exec .cmdApply { playing with dirty := true })
        (fun t => (t.seq, t.armed, t.abortReq)) = some (.halting, false, true) ∧
      after (exec .cmdApply .reset) statusView = some 0x0000000B#32 ∧
      after (exec .cmdApply playing) (fun t => { t with rdata := none }) = some playing := by
  decide

/-- Program 3 lines 1 to 7. -/
theorem test_solve_command :
    after (exec .cmdSolve
        { State.reset with
          solvTnum := 472757439#32, solvTden := 1000000000#32, solvQmax := 1000000#32 })
      (fun t => (t.solvP, t.solvQ, t.solvIter)) =
      some (0x0006B56F#32, 0x000E30CD#32, 13#7) := by
  decide +kernel

/-! ## The agents (95_test_vectors.md 2.5, 43_output_fsm.md R330) -/

theorem test_fsm_choices :
    after (turn .fsmStep completed) statusView = some 0x0004B2F0#32 ∧
      after (turn .fsmStep { completed with outputState := .silent, ind := false })
        (fun t => (t.engBuf, t.outputState, t.ind, t.intstat)) =
        some (2#2, .transmitting, true, 4#4) ∧
      after (turn .fsmStep { completed with txen := false })
        (fun t => (t.engBuf, t.outputState, t.ind, t.intstat)) =
        some (3#2, .silent, false, 8#4) ∧
      after (turn .fsmStep { completed with txen := false, outputState := .silent })
        (fun t => (t.engBuf, t.engActive, t.irqPend)) = some (0#2, true, false) := by
  decide

/-- R302: acknowledge only. -/
theorem test_fsm_gate :
    after (turn .fsmStep { completed with armed := false })
        (fun t => (t.engActive, t.irqPend)) = some (false, false) ∧
      after (turn .fsmStep { playing with irqPend := true, txen := false })
        (fun t => (t.outputState, t.irqPend)) = some (.transmitting, false) := by
  decide

/-- R321: the first emitted code of 65555659 is 1, the second 2; R325. -/
theorem test_engine :
    after (turn .engEmit playing) (fun t => (t.trace, t.engSlot)) =
        some ([⟨1#2, true, .serial⟩], 1#4) ∧
      slotPair 0x65555659#32 1#4 = 2#2 ∧
      after (turn .engEmit { playing with engSlot := 15#4 })
        (fun t => (t.engActive, t.irqPend, t.engBuf)) = some (false, true, 1#2) ∧
      after (turn .engAbort { halting with irqPend := true })
        (fun t => (t.engActive, t.abortReq, t.irqPend)) = some (false, false, true) := by
  have h := Config.two_le_bufCap
  have h0 : ¬(0 ≥ Config.bufCap) := by omega
  refine ⟨?_, by decide, ?_, by decide⟩ <;>
    simp only [turn, step, agentStep, engEmit, withInput, playing, State.reset,
      BitVec.toNat_ofNat, Nat.zero_mod, h0, if_false, Bool.true_eq_false] <;> rfl

theorem test_reset_turn :
    step { playing with input := [.reset, .host 0#54] } =
      .next { State.reset with input := [.host 0#54] } := rfl

/-! ## Calculation (95_test_vectors.md 1, 2.1 and 2.4) -/

theorem test_solver :
    solve 1 2 3000 = ⟨1, 2, 1⟩ ∧ solve 1 3001 2500 = ⟨1, 2500, 1⟩ ∧
      solve 288 1000 100000000 = ⟨36, 125, 4⟩ ∧ solve 3 2 10 = ⟨1, 1, 0⟩ ∧
      solve (-1) 2 10 = ⟨0, 1, 0⟩ ∧ solve 1 2 0 = ⟨0, 1, 0⟩ ∧ solve 3 4 2 = ⟨1, 2, 1⟩ ∧
      solve 472757439 1000000000 1000000 = ⟨439663, 929997, 13⟩ ∧
      solve 2147483647 4294967295 4294967295 = ⟨2147483647, 4294967295, 2⟩ := by
  decide +kernel

theorem test_calculation :
    calculate 16000000 2 32000000 10000 = ⟨2, 1, 1, 32000000⟩ ∧
      calculate 12000000 7 16000000 10000 = ⟨6, 2, 1, 16000000⟩ ∧
      calculate 150000000 4096 224000000 50 = ⟨4085, 1520, 4, 223255813⟩ ∧
      calculate 1000000 4 1280000000 10000 = ⟨4, 4, 0, 4000000⟩ ∧
      calculate 16000000 2 16000000 10000 = ⟨2, 0, 1, 0⟩ := by
  decide +kernel

theorem test_clock_divider :
    clockDivisor 16000000 224000000 = 0x249 ∧ clockFexact 16000000 0x249 = 224054700 ∧
      clockDivisor 16000000 16777216 = 0x1E85 ∧ clockDivisor 16000000 1280000000 = 0x100 ∧
      clockDivisor 1073741823 6400000 = 0x14F8B6 := by
  decide +kernel

/-! ## The fill (95_test_vectors.md 2.2 and 2.3, 42_waveform_fill.md R245) -/

theorem test_sine :
    sineRef 0x00001AB4#32 = 10738 ∧ sineRef 1#32 = 2 ∧ sineRef 0xFFFFFFFF#32 = -2 ∧
      sineRef 0x08001AB4#32 = 209487170 ∧ sineRef 0xB8001AB4#32 = -1053112271 := by
  decide +kernel

theorem test_samples :
    steadySample sineRef (configA 5#3) 7 = 64276 ∧
      steadySample sineRef (configA 5#3) 16 = -1 ∧ window sineRef 32 15 = 509678846 ∧
      rampUpSample sineRef 32 7 64276 = 7753 ∧ rampDownSample sineRef 32 17 (-12787) = -5426 ∧
      idealSample sineRef 0x10000#18 0x4000#32 0x40000000#32 0x08001AB4#32 = 26408 := by
  decide +kernel

theorem test_dither :
    draw 0x9E3779B9#32 = 0x510C4619#32 ∧ draw 0x510C4619#32 = 0xE02E553E#32 ∧
      ditherValue 0x8000#18 0x510C4619#32 = 20748 ∧
      ditherValue 0x8000#18 0xE02E553E#32 = -8146 := by
  decide

theorem test_fill_untapered :
    (fill sineRef 2 (configA 1#3)).steady = [0x55555555#32, 0xAAAAAAAA#32] ∧
      (fill sineRef 2 (configA 2#3)).rampUp = [0x65555659#32, 0x9AAAAA69#32] ∧
      (fill sineRef 2 (configA 3#3)).steady = [0xC5D5551C#32, 0xCABAAA2C#32] ∧
      (fill sineRef 2 (configA 3#3)).rampDown = [0#32, 0#32] := by
  decide +kernel

theorem test_fill_tapered_dithered :
    fill sineRef 2 { configA 5#3 with dither := 0x8000#18 } =
      ⟨[0#32, 0#32], [0x155D5174#32, 0xBA2AAAB3#32], [0xCC74E4D8#32, 0xE8AEA2C9#32],
        [0x1C7545CC#32, 0x4D2E4E36#32]⟩ := by
  decide +kernel

/-- Configuration B, mode 4: the zero tail of R274. -/
theorem test_fill_tail :
    (fill sineRef 7 { configA 4#3 with words := 6, periods := 2 }).rampDown =
      [0x56555599#32, 0xA6999655#32, 0x99A9AA6A#32, 0x65965999#32, 0x99999999#32,
        0x99999999#32, 0#32] := by
  decide +kernel

/-! ## Memory (20_memory.md R81) -/

theorem test_memory_bytes :
    Memory.writeWord [] 0x20000 0x65005659#32 =
        [(0x20000, 0x59#8), (0x20001, 0x56#8), (0x20003, 0x65#8)] ∧
      Memory.writeWord [(0x20000, 0x59#8)] 0x20000 0#32 = [] ∧
      Memory.readWord [(0x20000, 0x59#8), (0x20003, 0x65#8)] 0x20000 = 0x65000059#32 := by
  decide

/-! ## Witnesses: the hypotheses of the statements can be met -/

/-- EncodedOperationsDecodeBack. -/
theorem test_witness_wf :
    Instr.wf (.rdBufSilent 0x3FFF#14) = true ∧ Instr.wf (.cmdReserved 0#32) = true ∧
      Instr.wf (.misaligned true 2#2 0x7FFFF#19) = true ∧
      Instr.wf (.unmapped false 0x7FFFC#19) = true := by
  decide

/-- EveryWordDecodesToAWellFormedOperation and RegisterTableRowsDecode. -/
theorem test_witness_decoding :
    usesData (decodeTw 0x0030002001E84800#54) = true ∧
      (0x000#19, Instr.rdId) ∈ registerTable.map (fun r => (r.1, r.2.1)) ∧
      (0x07C#19, Instr.rdParamCpu) ∈ registerTable.map (fun r => (r.1, r.2.1)) := by
  decide

/-- DecodingFollowsTheStatedOrder, one word for each of its four clauses. -/
theorem test_witness_decoding_order :
    (let tw : TransWord := 0x0010000600000000#54;
      ¬(twSize tw = sizeWord ∧ addrLow (twAddr tw) = 0#2)) ∧
      (let tw : TransWord := 0x0030000C00000004#54;
      twSize tw = sizeWord ∧ twWe tw = true ∧ twAddr tw = 0x0000C#19 ∧ twData tw ≠ 1#32 ∧
        twData tw ≠ 2#32 ∧ twData tw ≠ 3#32) ∧
      (let tw : TransWord := 0x0015000000000000#54;
      twSize tw = sizeWord ∧ addrLow (twAddr tw) = 0#2 ∧ mappedAddr (twAddr tw) = false) ∧
      (let tw : TransWord := 0x0014FFFC00000000#54;
      twSize tw = sizeWord ∧ addrLow (twAddr tw) = 0#2 ∧ mappedAddr (twAddr tw) = true) := by
  decide

/-- TransactionBytesDecode. -/
theorem test_witness_bytes : 2 ^ 54 ≤ leValue [0, 0, 0, 0, 0, 0, 0x40#8] := by decide

/-- StepRunsTheDecodedTransaction. -/
theorem test_witness_host_turn :
    ({ playing with input := [.host 0x0030000C00000001#54] } : State).input =
        .host 0x0030000C00000001#54 :: [] ∧
      decodeTw 0x0030000C00000001#54 = .cmdApply ∧ 0x0030000C00000001 < 2 ^ 54 := by
  decide

/-- StepTakesAgentAndResetTurns: each kind of turn, and a state where no agent is enabled. -/
theorem test_witness_turns :
    ({ State.reset with input := [.agent .seqPoll] } : State).input = .agent .seqPoll :: [] ∧
      ({ State.reset with input := [.reset] } : State).input = .reset :: [] ∧
      State.reset.input = [] ∧ State.reset.engActive = false ∧ State.reset.abortReq = false ∧
      State.reset.irqPend = false ∧ State.reset.seq ≠ .halting ∧
      State.reset.seq ≠ .computing := by
  decide

/-- StepNeverStops and StepKeepsControlInvariants, in a state that plays. -/
theorem test_witness_control_playing :
    ControlInv { playing with input := [.agent .fsmStep] } ∧
      after (turn .fsmStep playing) State.engActive = some true := by
  have h := Config.two_le_bufCap
  have hp := Config.one_le_abortPollMax
  refine ⟨?_, by decide⟩
  constructor <;> (simp [playing, State.reset]; try omega)

/-- The same in a halt and in FATAL. -/
theorem test_witness_control_halting : ControlInv halting ∧ ControlInv inFatal := by
  have h := Config.two_le_bufCap
  have hp := Config.one_le_abortPollMax
  constructor <;> constructor <;> simp [halting, inFatal, State.reset] <;> omega

/-- StepKeepsKeyingRule: an edge in a state that meets it. -/
theorem test_witness_keying :
    KeyingInv playing ∧ KeyingInv { completed with txen := false } ∧
      after (turn .fsmStep { completed with txen := false }) State.engBuf = some 3#2 := by
  refine ⟨?_, ?_, by decide⟩ <;> simp [KeyingInv, playing, completed]

/-- StepKeepsLegalRegisters: a SOLVE at the ends of the ranges. -/
theorem test_witness_registers :
    RegisterInv
        { State.reset with
          freq := 1280000000#32, mode := 0#3, amp := 0x20000#18, hd3amp := 0xFFFF8000#32,
          maxw := 2#14, solvTden := 0xFFFFFFFF#32, input := [.host 0x0030000C00000003#54] } ∧
      after (issue 0x0030000C00000003#54 .reset) State.solvQ = some 1#32 := by
  exact ⟨by constructor <;> simp [State.reset], by decide⟩

/-- StepKeepsMemoryCanonical and StepKeepsBufferContents, with a buffer byte set. -/
theorem test_witness_buffers :
    playing.mem.wf = true ∧ BufferInv playing ∧ step playing = .next playing := by
  have h := Config.two_le_bufCap
  refine ⟨by decide, ⟨by decide, ?_, ?_, ?_⟩, rfl⟩
  · intro c hc
    simp only [playing, List.mem_singleton] at hc
    subst hc
    exact ⟨1#2, 0, 0, by omega, by omega, rfl⟩
  · intro _ w hw
    have := Config.bufCap_le
    simp only [playing, memRead, Memory.readWord, Memory.readByte, bufAddr, BitVec.toNat_ofNat]
    rw [if_neg (by omega), if_neg (by omega), if_neg (by omega), if_neg (by omega)]
    rfl
  · intro _ b w hn hw
    have := Config.bufCap_le
    have hb : b = 0#2 ∨ b = 1#2 ∨ b = 2#2 ∨ b = 3#2 := by revert b; decide
    simp only [playing, BitVec.toNat_ofNat] at hn
    rcases hb with rfl | rfl | rfl | rfl <;>
      simp only [playing, memRead, Memory.readWord, Memory.readByte, bufAddr,
        BitVec.toNat_ofNat] <;>
      rw [if_neg (by omega), if_neg (by omega), if_neg (by omega), if_neg (by omega)] <;> rfl

/-- FatalIsEnteredByTimeoutAndLeftByReset: the poll that exhausts the budget, and a reset. -/
theorem test_witness_fatal :
    after (turn .seqPoll { halting with poll := Config.abortPollChoice })
        (fun t => (t.fatal, t.seq, t.errCode)) = some (true, .idle, 8#4) ∧
      halting.fatal = false ∧ inFatal.fatal = true ∧
      after (step { inFatal with input := [.reset] }) State.fatal = some false := by
  refine ⟨?_, rfl, rfl, by decide⟩
  simp only [turn, step, agentStep, seqPoll, pollAgain, halting, withInput, State.reset,
    Config.abortPollMax]
  rfl

/-- HostTransactionsLeaveOutputSideAlone, DirtyFollowsConfigurationWrites: next states exist, for
a configuration write and another, and a compute step clears DIRTY. -/
theorem test_witness_host_frame :
    after (exec (.wrFreq 32000000#32) playing) State.dirty = some true ∧
      isConfigWrite (.wrFreq 32000000#32) = true ∧ isConfigWrite (.wrTxen 1#32) = false ∧
      after (exec (.wrTxen 1#32) playing) State.dirty = some false ∧
      computingZero.dirty = true ∧ after (turn .seqCompute computingZero) State.dirty =
        some false := by
  decide

/-- The compute step is next, in mode 5, over a silent buffer that is not zero. -/
def computingFive : State :=
  { State.reset with seq := .computing, mem := [(0x10000, 1#8)] }

/-- The compute step of `computingFive` makes its one listed byte 0 (42_waveform_fill.md R270). -/
theorem test_compute_clears_silent :
    (computeBuffers computingFive).mem.readByte 0x10000 = 0#8 := by
  have hs : (filledBuffers computingFive).silent = silentWords Config.bufCap := by
    unfold filledBuffers fill
    simp only
    split <;> rfl
  have hl : 0 < (filledBuffers computingFive).silent.length := by
    have := Config.two_le_bufCap
    rw [hs, silentWords, List.length_replicate]
    omega
  have hw : (computingFive.mem.writeWords 0x10000 (filledBuffers computingFive).silent).readWord
      (0x10000 + 4 * 0) = 0#32 := by
    rw [Memory.readWord_writeWords_same _ 0 hl (by decide)]
    simp only [hs, silentWords, List.getElem_replicate]
  have hm : ∀ s, (computeBuffers s).mem = publish (filledBuffers s) s.mem := fun _ => rfl
  rw [hm, publish, Memory.readByte_writeWords_other _ (.inl (by simp [bufAddr])),
    Memory.readByte_writeWords_other _ (.inl (by simp [bufAddr])),
    Memory.readByte_writeWords_other _ (.inl (by simp [bufAddr]))]
  have low : ∀ (x : BitVec 24) (w : Byte), x ++ w = 0#32 → w = 0#8 := fun x w h => by
    have hn := congrArg BitVec.toNat h
    rw [BitVec.toNat_append, BitVec.toNat_ofNat, Nat.zero_mod, Nat.or_eq_zero_iff] at hn
    exact BitVec.eq_of_toNat_eq hn.2
  exact low _ _ hw

/-- OnlyComputeStepWritesBuffers: a compute step, and a reset, that change a buffer byte. -/
theorem test_witness_buffer_written :
    (∃ t, step { computingFive with input := [.agent .seqCompute] } = .next t ∧
        t.mem.readByte 0x10000 ≠ computingFive.mem.readByte 0x10000) ∧
      ∃ t, step { playing with input := [.reset] } = .next t ∧
        t.mem.readByte 0x20000 ≠ playing.mem.readByte 0x20000 := by
  refine ⟨⟨computeBuffers computingFive, rfl, ?_⟩, ⟨_, rfl, by decide⟩⟩
  rw [test_compute_clears_silent]
  decide

/-- OutputStateChangesOnlyWithItsRamp: both edges, and steady and silent re-armed. -/
theorem test_witness_edges :
    after (turn .fsmStep { completed with outputState := .silent }) State.outputState =
        some .transmitting ∧
      after (turn .fsmStep { completed with txen := false }) State.outputState = some .silent ∧
      after (turn .fsmStep completed) (fun t => (t.engActive, t.engBuf)) = some (true, 1#2) ∧
      after (turn .fsmStep { completed with txen := false, outputState := .silent })
        (fun t => (t.engActive, t.engBuf)) = some (true, 0#2) ∧
      completed.engActive = false := by
  decide

/-- IntstatBitsFollowTheirEvents: each bit rising, and one falling by a write and by a reset. -/
theorem test_witness_intstat :
    after (issue 0x0030002400000006#54 .reset) State.intstat = some 1#4 ∧
      after (turn .seqCompute computingZero) State.intstat = some 2#4 ∧
      after (turn .fsmStep { completed with outputState := .silent }) State.intstat =
        some 4#4 ∧
      after (turn .fsmStep { completed with txen := false }) State.intstat = some 8#4 ∧
      after (issue 0x0030001800000005#54 { playing with intstat := 7#4 }) State.intstat =
        some 2#4 ∧
      after (step { playing with intstat := 7#4, input := [.reset] }) State.intstat =
        some 0#4 := by
  decide

/-- BufferReadsFollowTheirChecks: a word index that exists, in an idle, filled state. -/
theorem test_witness_buffer_read :
    (1#14).toNat < Config.bufCap ∧ playing.seq = .idle ∧ playing.filled = true :=
  ⟨Config.two_le_bufCap, rfl, rfl⟩

/-- ConfigurationWritesCheckTheirRange, GateRejectsBusyAndFatal: idle, busy, FATAL. -/
theorem test_witness_gate :
    State.reset.seq = .idle ∧ halting.seq ≠ .idle ∧ halting.fatal = false ∧
      inFatal.fatal = true ∧ isConfigWrite (.wrSeed 0#32) = true := by
  decide

/-- ReadOnlyWritesAreRejected. -/
theorem test_witness_read_only :
    Instr.wrRoParamCpu ∈ ([.wrRoId, .wrRoStatus, .wrRoNwords, .wrRoNperiods, .wrRoFexact,
      .wrRoClkdiv, .wrRoApproxIter, .wrRoSolvP, .wrRoSolvQ, .wrRoSolvIter, .wrRoParamCap,
      .wrRoParamCpu] : List Instr) := by
  decide

/-- ApplyStartsTheRightPhase, RestorePinsReleasesThePins, SolveCommandStoresTheSolution. -/
theorem test_witness_commands :
    playing.fatal = false ∧ playing.seq = .idle ∧ inFatal.fatal = true ∧
      halting.fatal = false ∧ halting.seq ≠ .idle ∧ State.reset.solvTden ≠ 0#32 := by
  decide

/-- HaltPollOutcomes: its three clauses. -/
theorem test_witness_polls :
    let s : State := { halting with input := [.agent .seqPoll] }
    (s.input = .agent .seqPoll :: [] ∧ s.seq = .halting ∧ s.armed = false ∧
        s.engActive = true) ∧
      (let t : State := { s with engActive := false, abortReq := false }
      t.input = .agent .seqPoll :: [] ∧ t.engActive = false ∧ t.abortReq = false) ∧
      (let t : State := { s with poll := Config.abortPollMax }
      t.poll + 1 ≠ Config.abortPollMax) ∧
      let t : State := { s with poll := Config.abortPollChoice }
      t.poll + 1 = Config.abortPollMax :=
  ⟨⟨rfl, rfl, rfl, rfl⟩, ⟨rfl, rfl, rfl⟩, Nat.succ_ne_self _, rfl⟩

/-- AbortBudgetEndsInFatal. -/
theorem test_witness_abort_budget :
    let s : State :=
      { halting with
        input := List.replicate Config.abortPollMax (.agent .seqPoll) ++ [.host 0#54] }
    s.seq = .halting ∧ s.abortReq = true ∧ s.poll = 0 ∧ s.errValid = false ∧
      s.input = List.replicate Config.abortPollMax (.agent .seqPoll) ++ [.host 0#54] :=
  ⟨rfl, rfl, rfl, rfl, rfl⟩

/-- FairExecutionsLeaveHalting: the agents in turn, from a halt in mode 0. -/
def roundRobin (n : Nat) : AgentStep :=
  match n % 5 with
  | 0 => .engEmit
  | 1 => .engAbort
  | 2 => .fsmStep
  | 3 => .seqPoll
  | _ => .seqCompute

def fairStates : Nat → State
  | 0 => { State.reset with seq := .halting, abortReq := true, mode := 0#3 }
  | n + 1 =>
    match turn (roundRobin n) (fairStates n) with
    | .next t => t
    | _ => fairStates n

theorem fairStates_step (n : Nat) :
    turn (roundRobin n) (fairStates n) = .next (fairStates (n + 1)) ∧
      (fairStates n).engActive = false ∧ (fairStates n).armed = false ∧
      (fairStates n).mode = 0#3 := by
  have next : ∀ (a : AgentStep) (s : State), s.engActive = false → s.armed = false →
      s.mode = 0#3 → ∃ t, turn a s = .next t ∧ t.engActive = false ∧ t.armed = false ∧
        t.mode = 0#3 := by
    intro a s h1 h2 h3
    cases a <;> simp only [turn, step, agentStep, withInput]
    · exact ⟨{ s with input := [] }, by rw [engEmit, if_pos h1], h1, h2, h3⟩
    · refine ⟨_, rfl, ?_⟩
      unfold engAbort
      split
      · exact ⟨rfl, h2, h3⟩
      · exact ⟨h1, h2, h3⟩
    · refine ⟨_, rfl, ?_⟩
      unfold fsmStep
      simp only [h2, Bool.false_and, Bool.false_eq_true, if_false]
      split <;> exact ⟨h1, rfl, h3⟩
    · refine ⟨_, rfl, ?_⟩
      unfold seqPoll pollAgain enterFatal record
      split
      · split
        · exact ⟨h1, h2, h3⟩
        · split
          · exact ⟨h1, rfl, h3⟩
          · exact ⟨h1, h2, h3⟩
      · exact ⟨h1, h2, h3⟩
    · refine ⟨_, rfl, ?_⟩
      unfold seqCompute
      simp only [h3, if_true]
      split <;> exact ⟨h1, h2, rfl⟩
  have inv : (fairStates n).engActive = false ∧ (fairStates n).armed = false ∧
      (fairStates n).mode = 0#3 := by
    induction n with
    | zero => exact ⟨rfl, rfl, rfl⟩
    | succ n ih =>
      obtain ⟨t, ht, h⟩ := next (roundRobin n) (fairStates n) ih.1 ih.2.1 ih.2.2
      rw [fairStates, ht]
      exact h
  obtain ⟨t, ht, -⟩ := next (roundRobin n) (fairStates n) inv.1 inv.2.1 inv.2.2
  exact ⟨by rw [fairStates, ht], inv⟩

def fairExecution : Execution :=
  ⟨fun n => .agent (roundRobin n), fairStates, fun n => (fairStates_step n).1⟩

theorem test_witness_fair :
    WeaklyFair fairExecution ∧ ControlInv (fairExecution.states 0) ∧
      (fairExecution.states 0).seq = .halting := by
  have hp := Config.one_le_abortPollMax
  have h := Config.two_le_bufCap
  refine ⟨?_, ?_, rfl⟩
  · intro a n _
    have key : ∀ k, k < 5 → ∃ m, n ≤ m ∧ m % 5 = k := fun k hk =>
      ⟨5 * n + k, by omega, by omega⟩
    cases a
    · obtain ⟨m, hm, hk⟩ := key 0 (by omega)
      exact ⟨m, hm, by simp [fairExecution, roundRobin, hk]⟩
    · obtain ⟨m, hm, hk⟩ := key 1 (by omega)
      exact ⟨m, hm, by simp [fairExecution, roundRobin, hk]⟩
    · obtain ⟨m, hm, hk⟩ := key 2 (by omega)
      exact ⟨m, hm, by simp [fairExecution, roundRobin, hk]⟩
    · obtain ⟨m, hm, hk⟩ := key 3 (by omega)
      exact ⟨m, hm, by simp [fairExecution, roundRobin, hk]⟩
    · obtain ⟨m, hm, hk⟩ := key 4 (by omega)
      exact ⟨m, hm, by simp [fairExecution, roundRobin, hk]⟩
  · constructor <;> simp [fairExecution, fairStates, State.reset]
    omega

/-- ModeZeroComputeStep: legal registers, at the ends of FREQ's range. -/
theorem test_witness_mode_zero_registers :
    RegisterInv { computingZero with input := [.agent .seqCompute] } ∧
      RegisterInv { computingZero with freq := 1280000000#32 } := by
  constructor <;> constructor <;> simp [computingZero, State.reset]

/-- ModeZeroComputeStep and ComputeStepPublishesTheFill. -/
theorem test_witness_compute :
    (let s : State := { computingZero with input := [.agent .seqCompute] };
      s.input = .agent .seqCompute :: [] ∧ s.seq = .computing ∧ s.mode = 0#3) ∧
      let s : State := { computingFive with input := [.agent .seqCompute] }
      s.input = .agent .seqCompute :: [] ∧ s.seq = .computing ∧ s.mode ≠ 0#3 ∧
        s.mem.wf = true := by
  decide

/-- EngineStepsEmitAndAbort. -/
theorem test_witness_engine_steps :
    (let s : State := { playing with input := [.agent .engEmit] };
      s.input = .agent .engEmit :: [] ∧ s.engActive = true ∧
        s.engWord.toNat < Config.bufCap) ∧
      let s : State := { halting with input := [.agent .engAbort] }
      s.input = .agent .engAbort :: [] ∧ s.abortReq = true := by
  have h := Config.two_le_bufCap
  exact ⟨⟨rfl, rfl, by simp [playing, State.reset]; omega⟩, rfl, rfl⟩

/-- EnginePlaysTheWholeBuffer. -/
theorem test_witness_whole_buffer :
    let s : State :=
      { playing with input := List.replicate 16 (.agent .engEmit) ++ [.agent .fsmStep] }
    s.engActive = true ∧ s.engWord = 0#15 ∧ s.engSlot = 0#4 ∧ 1 ≤ s.nwords.toNat ∧
      s.nwords.toNat ≤ Config.bufCap ∧
      s.input = List.replicate (16 * s.nwords.toNat) (.agent .engEmit) ++ [.agent .fsmStep] := by
  have h := Config.two_le_bufCap
  exact ⟨rfl, rfl, rfl, by decide, by simp [playing]; omega, rfl⟩

/-- FsmStepChoosesTheBuffer. -/
theorem test_witness_fsm_step :
    let s : State := { completed with input := [.agent .fsmStep] }
    s.input = .agent .fsmStep :: [] ∧ s.irqPend = true := by
  decide

/-- InterruptLineAndPins: a state for each case of the pins, and records of both kinds. -/
theorem test_witness_pins :
    completed.pins = .level false false ∧ playing.pins = .streaming ∧
      ({ playing with outsel := .clkdiv, clkdiv := 0x249#24 } : State).pins =
        .clockDivider 0x249#24 ∧
      ({ playing with outsel := .noProgram } : State).pins = .noProgram ∧
      State.reset.pins = .released ∧ irq { playing with intstat := 2#4, inten := 2#4 } = true ∧
      TraceRec.pins ⟨1#2, true, .serial⟩ = some (true, false) ∧
      TraceRec.pins ⟨1#2, true, .clkdiv⟩ = none := by
  decide

/-- SolverResultIsAProperFraction, SolverResultIsClosest, SolverTakesAtMost45Passes and
CalculationFitsTheBuffer: a target in range, above 1 and below 0. -/
theorem test_witness_solver :
    (1 : Int) ≤ 3001 ∧ (0 : Int) ≤ 2500 ∧ (2500 : Int) < 2 ^ 32 ∧ (0 : Int) ≤ 1 ∧
      (1 : Int) ≤ 3001 ∧ (3001 : Int) < 3002 ∧ (-1 : Int) < 0 ∧ 1 ≤ 2500 ∧
      (2500 : Int) ≤ max 2500 1 ∧ 1 ≤ 16000000 ∧ 2 ≤ 4096 := by
  decide

/-- FillKeepsTheBufferShape, TwoLevelModesNeverSetBothBits. -/
theorem test_witness_fill :
    (configA 2#3).words ≤ 2 ∧
      0x65555659#32 ∈ Buffers.words (fill sineRef 2 (configA 2#3)) 1#2 := by
  decide +kernel

/-- TaperWindowRises: a sine of the stated shape. -/
theorem test_witness_sine_shape : SineShape triangle := by
  constructor
  · decide
  · decide
  · decide
  · decide
  · intro u
    simp only [triangle, BitVec.toNat_neg]
    have := u.isLt
    split <;> split <;> (try split) <;> (try split) <;> omega
  · intro u hu
    have hu' : u.toNat ≤ 0x80000000 := by simpa [BitVec.le_def] using hu
    simp only [triangle, BitVec.toNat_sub_of_le hu, BitVec.toNat_ofNat]
    split <;> split <;> (try split) <;> (try split) <;> omega
  · intro u v huv hv
    have huv' : u.toNat ≤ v.toNat := by simpa [BitVec.le_def] using huv
    have hv' : v.toNat ≤ 0x40000000 := by simpa [BitVec.le_def] using hv
    simp only [triangle]
    rw [if_pos (by omega), if_pos (by omega)]
    omega

/-- SamplesStayInRange, DitherStaysInRange, PackedSamplesReadBack. -/
theorem test_witness_samples :
    (∀ u, |sineRef u| ≤ 2 ^ 30) ∧ (0x20000#18).toNat ≤ 0x20000 ∧
      |(0xFFFF8000#32).toInt| ≤ 0x8000 ∧ 0x9E3779B9#32 ≠ 0#32 ∧ 0x8000#18 ≠ 0#18 ∧
      (List.replicate 16 1#2).length = 16 * 1 :=
  ⟨fun u => sineRef_abs_le u, by decide, by decide, by decide, by decide, rfl⟩

/-- UnspecifiedBufferContentIsNeverObserved: a content that is not all zero. -/
theorem test_witness_content : Memory.wf [(0x10000, 1#8), (0x20003, 0xFF#8)] = true := by
  decide

end Sys2Proof.Tests
end

section
/-! PROOFS. Under weak fairness no halt lasts for ever (00_scope.md R3; 44_controller.md R346,
R347). While a halt lasts only SEQ_POLL moves POLL, and each poll counts up below ABORT_POLL_MAX;
fairness makes the polls recur, so the halt ends. -/

namespace Sys2Proof.Machine

/-! ### What the host does to POLL -/

/-- If the operation answers a next state, POLL there is as in `s`. -/
def KeepsPoll (s : State) (r : Host.Outcome State Fault Refusal) : Prop :=
  ∀ t, r = .next t → t.poll = s.poll

theorem KeepsPoll.answer (v : Word) (s : State) : KeepsPoll s (answer v s) := by
  rintro _ ⟨⟩; rfl

theorem KeepsPoll.accept {s w : State} (hw : w.poll = s.poll) : KeepsPoll s (accept w) := by
  rintro _ ⟨⟩; exact hw

theorem KeepsPoll.rejectWrite (c : ErrorCode) (s : State) : KeepsPoll s (rejectWrite c s) := by
  rintro _ ⟨⟩; rfl

theorem KeepsPoll.rejectAccess (we : Bool) (c : ErrorCode) (s : State) :
    KeepsPoll s (rejectAccess we c s) := by
  intro t h
  obtain ⟨-, rfl⟩ | ⟨-, rfl⟩ := rejectAccess_cases h <;> simp

theorem KeepsPoll.bufferRead (b : BitVec 2) (w : BitVec 14) (s : State) :
    KeepsPoll s (bufferRead b w s) := by
  intro t h
  obtain ⟨-, rfl⟩ | ⟨-, -, rfl⟩ | ⟨-, -, -, rfl⟩ | ⟨-, -, -, rfl⟩ := bufferRead_cases h <;> simp

theorem KeepsPoll.bufferWrite (w : BitVec 14) (s : State) : KeepsPoll s (bufferWrite w s) := by
  intro t h
  obtain ⟨-, rfl⟩ | ⟨-, rfl⟩ := bufferWrite_cases h <;> simp

/-- Outside IDLE the gate rejects every configuration write (45_bus_access.md R442). -/
theorem KeepsPoll.configWrite {s : State} (hs : s.seq ≠ .idle) (legal : Bool) (written : State) :
    KeepsPoll s (configWrite legal written s) := by
  intro t h
  obtain ⟨-, rfl⟩ | ⟨hi, -⟩ | ⟨hi, -⟩ := configWrite_cases h
  · simp
  · exact absurd hi hs
  · exact absurd hi hs

/-- Outside IDLE the gate rejects every command (45_bus_access.md R442). -/
theorem KeepsPoll.commandGate {s : State} (hs : s.seq ≠ .idle)
    (admitted : Host.Outcome State Fault Refusal) : KeepsPoll s (commandGate admitted s) := by
  intro t h
  obtain ⟨-, rfl⟩ | ⟨-, -, rfl⟩ | ⟨-, hi, -⟩ := commandGate_cases h
  · simp
  · simp
  · exact absurd hi hs

theorem KeepsPoll.execWrErr (wdata : Word) (s : State) : KeepsPoll s (execWrErr wdata s) := by
  unfold Machine.execWrErr
  split
  · exact .accept rfl
  · exact .accept rfl

theorem KeepsPoll.execWrSolvTden (wdata : Word) (s : State) :
    KeepsPoll s (execWrSolvTden wdata s) := by
  unfold Machine.execWrSolvTden
  split
  · exact .accept rfl
  · exact .rejectWrite _ s

/-- Only an APPLY accepted in IDLE clears POLL, so outside IDLE the host leaves it alone. -/
theorem exec_keeps_poll_of_busy {s : State} (hs : s.seq ≠ .idle) (i : Instr) :
    KeepsPoll s (exec i s) := by
  cases i with
  | rdId | rdStatus | rdErr | rdCmd | rdTxen | rdInten | rdIntstat | rdFreq | rdMode | rdAmp
  | rdDither | rdHd3amp | rdHd3ph | rdMaxw | rdSeed | rdNwords | rdNperiods | rdFexact | rdClkdiv
  | rdApproxIter | rdSolvTnum | rdSolvTden | rdSolvQmax | rdSolvP | rdSolvQ | rdSolvIter
  | rdParamCap | rdParamCpu => exact .answer _ s
  | wrRoId | wrRoStatus | wrRoNwords | wrRoNperiods | wrRoFexact | wrRoClkdiv | wrRoApproxIter
  | wrRoSolvP | wrRoSolvQ | wrRoSolvIter | wrRoParamCap | wrRoParamCpu =>
    exact .rejectWrite _ s
  | rdBufSilent w | rdBufSteady w | rdBufRampup w | rdBufRampdown w => exact .bufferRead _ w s
  | wrRoBufSilent w | wrRoBufSteady w | wrRoBufRampup w | wrRoBufRampdown w =>
    exact .bufferWrite w s
  | wrFreq | wrMode | wrAmp | wrDither | wrHd3amp | wrHd3ph | wrMaxw | wrSeed =>
    exact .configWrite hs _ _
  | cmdApply | cmdRestorePins | cmdSolve | cmdReserved => exact .commandGate hs _
  | wrTxen | wrInten | wrIntstat | wrSolvTnum | wrSolvQmax => exact .accept rfl
  | wrErr wdata => exact .execWrErr wdata s
  | wrSolvTden wdata => exact .execWrSolvTden wdata s
  | misaligned we | unmapped we => exact .rejectAccess we _ s

/-! ### What the agents do to POLL -/

@[simp] theorem advance_poll (s : State) : (advance s).poll = s.poll := by
  obtain ⟨-, h⟩ | ⟨-, -, h⟩ | ⟨-, -, h⟩ := advance_cases s <;> simp [h]

@[simp] theorem engAbort_poll (s : State) : (engAbort s).poll = s.poll := by
  obtain ⟨-, h⟩ | ⟨-, h⟩ := engAbort_cases s <;> simp [h]

@[simp] theorem chooseBuffer_poll (s : State) : (chooseBuffer s).poll = s.poll := by
  unfold chooseBuffer
  split <;> simp

@[simp] theorem fsmStep_poll (s : State) : (fsmStep s).poll = s.poll := by
  obtain ⟨-, h⟩ | ⟨-, -, h⟩ | ⟨-, -, -, h⟩ := fsmStep_cases s <;> simp [h]

theorem engEmit_keeps_poll (s : State) : KeepsPoll s (engEmit s) := by
  intro t h
  obtain ⟨-, rfl⟩ | ⟨-, -, rfl⟩ := engEmit_cases h <;> simp

/-- In a halt every agent's step but SEQ_POLL leaves POLL alone. -/
theorem agentStep_keeps_poll_of_halting {a : AgentStep} {s : State} (ha : a ≠ .seqPoll)
    (hs : s.seq = .halting) : KeepsPoll s (agentStep a s) := by
  cases a with
  | engEmit => exact engEmit_keeps_poll s
  | engAbort => rintro _ ⟨⟩; exact engAbort_poll s
  | fsmStep => rintro _ ⟨⟩; exact fsmStep_poll s
  | seqPoll => exact absurd rfl ha
  | seqCompute =>
    have hc : seqCompute s = s := by simp [seqCompute, hs]
    rintro _ ⟨⟩; rw [hc]

/-- A poll after which the halt goes on was an unsuccessful one within the budget (R347). -/
theorem seqPoll_counts_of_still_halting {s : State} (hs : s.seq = .halting)
    (ht : (seqPoll s).seq = .halting) :
    (seqPoll s).poll = s.poll + 1 ∧ s.poll + 1 ≠ Config.abortPollMax := by
  obtain ⟨hne, -⟩ | ⟨-, -, -, h⟩ | ⟨-, -, -, h⟩ | ⟨-, -, hp, h⟩ := seqPoll_cases s
  · exact absurd hs hne
  · simp [h] at ht
  · simp [h] at ht
  · exact ⟨by rw [h], hp⟩

/-! ### A halt along an execution -/

namespace Execution

variable {e : Execution} {n m : Nat}

/-- A host turn of an execution runs its decoded transaction. -/
theorem steps_host {tw : TransWord} (h : e.turns m = .host tw) :
    exec (decodeTw tw) (withInput [] (e.states m)) = .next (e.states (m + 1)) := by
  have hstep := e.steps m
  rw [h] at hstep
  exact hstep

/-- An agent's turn of an execution runs its step. -/
theorem steps_agent {a : AgentStep} (h : e.turns m = .agent a) :
    agentStep a (withInput [] (e.states m)) = .next (e.states (m + 1)) := by
  have hstep := e.steps m
  rw [h] at hstep
  exact hstep

/-- A reset turn of an execution leads to the reset state. -/
theorem steps_reset (h : e.turns m = .reset) : e.states (m + 1) = State.reset :=
  (Host.Outcome.next.inj (h ▸ e.steps m)).symm

/-- The execution stays in HALTING from `n` on. -/
def HaltsFrom (e : Execution) (n : Nat) : Prop := ∀ m, n ≤ m → (e.states m).seq = .halting

theorem HaltsFrom.poll_counts (h : e.HaltsFrom n) (hm : n ≤ m)
    (hturn : e.turns m = .agent .seqPoll) :
    (e.states (m + 1)).poll = (e.states m).poll + 1 ∧
      (e.states m).poll + 1 ≠ Config.abortPollMax := by
  have hpoll : seqPoll (withInput [] (e.states m)) = e.states (m + 1) :=
    Host.Outcome.next.inj (steps_agent hturn)
  have hnext := h (m + 1) (by omega)
  rw [← hpoll] at hnext ⊢
  exact seqPoll_counts_of_still_halting (h m hm) hnext

theorem HaltsFrom.poll_unchanged (h : e.HaltsFrom n) (hm : n ≤ m)
    (hturn : e.turns m ≠ .agent .seqPoll) :
    (e.states (m + 1)).poll = (e.states m).poll := by
  have hhalt : (withInput [] (e.states m)).seq = .halting := h m hm
  cases ht : e.turns m with
  | host tw =>
    have hbusy : (withInput [] (e.states m)).seq ≠ .idle := by rw [hhalt]; decide
    exact exec_keeps_poll_of_busy hbusy _ _ (steps_host ht)
  | agent a =>
    have ha : a ≠ .seqPoll := by rintro rfl; exact hturn ht
    exact agentStep_keeps_poll_of_halting ha hhalt _ (steps_agent ht)
  | reset =>
    have hnext := h (m + 1) (by omega)
    rw [steps_reset ht] at hnext
    cases hnext

theorem HaltsFrom.poll_mono (h : e.HaltsFrom n) {k : Nat} (hm : n ≤ m) (hk : m ≤ k) :
    (e.states m).poll ≤ (e.states k).poll := by
  induction k, hk using Nat.le_induction with
  | base => exact le_rfl
  | succ k hk ih =>
    by_cases hturn : e.turns k = .agent .seqPoll
    · have := h.poll_counts (hm.trans hk) hturn
      omega
    · rw [h.poll_unchanged (hm.trans hk) hturn]
      exact ih

/-- R53: POLL stays below the budget while the halt lasts. -/
theorem HaltsFrom.poll_lt (h : e.HaltsFrom n) (h0 : (e.states n).poll < Config.abortPollMax)
    (hm : n ≤ m) : (e.states m).poll < Config.abortPollMax := by
  induction m, hm using Nat.le_induction with
  | base => exact h0
  | succ m hm ih =>
    by_cases hturn : e.turns m = .agent .seqPoll
    · have := h.poll_counts hm hturn
      omega
    · rw [h.poll_unchanged hm hturn]
      exact ih

/-- SEQ_POLL stays enabled in a halt that lasts, so under weak fairness POLL passes every bound. -/
theorem HaltsFrom.poll_unbounded (h : e.HaltsFrom n) (hfair : WeaklyFair e) (b : Nat) :
    ∃ m, n ≤ m ∧ b ≤ (e.states m).poll := by
  induction b with
  | zero => exact ⟨n, le_rfl, Nat.zero_le _⟩
  | succ b ih =>
    obtain ⟨m, hm, hb⟩ := ih
    obtain ⟨k, hk, hturn⟩ := hfair .seqPoll m fun j hj => h j (hm.trans hj)
    have hmono := h.poll_mono hm hk
    obtain ⟨hcount, -⟩ := h.poll_counts (hm.trans hk) hturn
    exact ⟨k + 1, by omega, by omega⟩

end Execution

/-- Settles O41: an endless halt would count POLL past the budget that it stays below. -/
theorem fairExecutionsLeaveHalting : Obligations.FairExecutionsLeaveHalting := by
  intro e n hfair hinv
  by_contra hnone
  have halts : e.HaltsFrom n := fun m hm => by
    by_contra hne
    exact hnone ⟨m, hm, hne⟩
  obtain ⟨-, hbudget⟩ := hinv.poll_budget
  obtain ⟨m, hm, hexhausted⟩ := halts.poll_unbounded hfair Config.abortPollMax
  have hlt := halts.poll_lt (hbudget (halts n le_rfl)) hm
  omega

end Sys2Proof.Machine
end

section
/-! PROOFS. What one step can do, said once: the effects of a host operation and of an agent's
step (45_bus_access.md, 43_output_fsm.md, 44_controller.md), and the induction step of every
invariant. -/

namespace Sys2Proof.Machine

/-! ### Host operations -/

/-- What a host operation can do: answer or ignore, be rejected, or one update of its own. -/
inductive HostEffect (s : State) : Instr → State → Prop
  | answers (i : Instr) (v : Option Word) : HostEffect s i (respond v s)
  | rejects (i : Instr) (c : ErrorCode) (v : Option Word) :
      HostEffect s i (respond v (record c s))
  | clearsErr (v : Word) :
      HostEffect s (.wrErr v)
        (respond none { s with errCode := 0#4, errOvf := false, errValid := false })
  | writesTxen (v : Word) :
      HostEffect s (.wrTxen v) (respond none { s with txen := v.getLsbD 0 })
  | writesInten (v : Word) :
      HostEffect s (.wrInten v) (respond none { s with inten := store 4 v })
  | clearsIntstat (v : Word) :
      HostEffect s (.wrIntstat v)
        (respond none { s with intstat := s.intstat &&& ~~~(store 4 v) })
  | writesFreq (v : Word) (legal : legalFreq v = true) :
      HostEffect s (.wrFreq v) (respond none { s with freq := v, dirty := true })
  | writesMode (v : Word) (legal : legalMode v = true) :
      HostEffect s (.wrMode v) (respond none { s with mode := store 3 v, dirty := true })
  | writesAmp (v : Word) (legal : legalAmp v = true) :
      HostEffect s (.wrAmp v) (respond none { s with amp := store 18 v, dirty := true })
  | writesDither (v : Word) (legal : legalDither v = true) :
      HostEffect s (.wrDither v) (respond none { s with dither := store 18 v, dirty := true })
  | writesHd3amp (v : Word) (legal : legalHd3amp v = true) :
      HostEffect s (.wrHd3amp v) (respond none { s with hd3amp := v, dirty := true })
  | writesHd3ph (v : Word) :
      HostEffect s (.wrHd3ph v) (respond none { s with hd3ph := v, dirty := true })
  | writesMaxw (v : Word) (legal : legalMaxw v = true) :
      HostEffect s (.wrMaxw v) (respond none { s with maxw := store 14 v, dirty := true })
  | writesSeed (v : Word) (legal : legalSeed v = true) :
      HostEffect s (.wrSeed v) (respond none { s with seed := v, dirty := true })
  | writesTnum (v : Word) :
      HostEffect s (.wrSolvTnum v) (respond none { s with solvTnum := v })
  | writesTden (v : Word) (legal : legalTden v = true) :
      HostEffect s (.wrSolvTden v) (respond none { s with solvTden := v })
  | writesQmax (v : Word) :
      HostEffect s (.wrSolvQmax v) (respond none { s with solvQmax := v })
  | applies (sound : s.fatal = false) (idle : s.seq = .idle) :
      HostEffect s .cmdApply (respond none (applyStart s))
  | restoresPins : HostEffect s .cmdRestorePins (respond none (restorePins s))
  | solves : HostEffect s .cmdSolve (respond none (solveRegisters s))

namespace HostEffect

variable {s t : State} {i : Instr}

theorem of_answer {v : Word} (h : answer v s = .next t) : HostEffect s i t := by
  obtain rfl := Host.Outcome.next.inj h
  exact .answers i _

theorem of_rejectWrite {c : ErrorCode} (h : rejectWrite c s = .next t) : HostEffect s i t := by
  obtain rfl := Host.Outcome.next.inj h
  exact .rejects i c _

theorem of_rejectAccess {we : Bool} {c : ErrorCode} (h : rejectAccess we c s = .next t) :
    HostEffect s i t := by
  obtain ⟨-, rfl⟩ | ⟨-, rfl⟩ := rejectAccess_cases h
  · exact .rejects i c _
  · exact .rejects i c _

theorem of_bufferRead {b : BitVec 2} {w : BitVec 14} (h : bufferRead b w s = .next t) :
    HostEffect s i t := by
  obtain ⟨-, rfl⟩ | ⟨-, -, rfl⟩ | ⟨-, -, -, rfl⟩ | ⟨-, -, -, rfl⟩ := bufferRead_cases h
  · exact .rejects i _ _
  · exact .rejects i _ _
  · exact .rejects i _ _
  · exact .answers i _

theorem of_bufferWrite {w : BitVec 14} (h : bufferWrite w s = .next t) : HostEffect s i t := by
  obtain ⟨-, rfl⟩ | ⟨-, rfl⟩ := bufferWrite_cases h
  · exact .rejects i _ _
  · exact .rejects i _ _

theorem of_configWrite {legal : Bool} {written : State} (h : configWrite legal written s = .next t)
    (stored : legal = true → HostEffect s i (respond none { written with dirty := true })) :
    HostEffect s i t := by
  obtain ⟨-, rfl⟩ | ⟨-, hlegal, rfl⟩ | ⟨-, -, rfl⟩ := configWrite_cases h
  · exact .rejects i _ _
  · exact stored hlegal
  · exact .rejects i _ _

theorem of_commandGate {r : Host.Outcome State Fault Refusal} (h : commandGate r s = .next t)
    (passed : s.fatal = false → s.seq = .idle → r = .next t → HostEffect s i t) :
    HostEffect s i t := by
  obtain ⟨-, rfl⟩ | ⟨-, -, rfl⟩ | ⟨hfatal, hidle, hr⟩ := commandGate_cases h
  · exact .rejects i _ _
  · exact .rejects i _ _
  · exact passed hfatal hidle hr

theorem of_execWrErr {v : Word} (h : execWrErr v s = .next t) : HostEffect s (.wrErr v) t := by
  unfold execWrErr at h
  split at h
  · obtain rfl := Host.Outcome.next.inj h
    exact .clearsErr v
  · obtain rfl := Host.Outcome.next.inj h
    exact .answers _ _

theorem of_execWrSolvTden {v : Word} (h : execWrSolvTden v s = .next t) :
    HostEffect s (.wrSolvTden v) t := by
  unfold execWrSolvTden at h
  split at h
  · next hlegal =>
    obtain rfl := Host.Outcome.next.inj h
    exact .writesTden v hlegal
  · exact of_rejectWrite h

end HostEffect

/-- Every host operation that answers a next state has one of the effects. -/
theorem exec_effect {i : Instr} {s t : State} (h : exec i s = .next t) : HostEffect s i t := by
  cases i with
  | rdId | rdStatus | rdErr | rdCmd | rdTxen | rdInten | rdIntstat | rdFreq | rdMode | rdAmp
  | rdDither | rdHd3amp | rdHd3ph | rdMaxw | rdSeed | rdNwords | rdNperiods | rdFexact | rdClkdiv
  | rdApproxIter | rdSolvTnum | rdSolvTden | rdSolvQmax | rdSolvP | rdSolvQ | rdSolvIter
  | rdParamCap | rdParamCpu => exact .of_answer h
  | wrRoId | wrRoStatus | wrRoNwords | wrRoNperiods | wrRoFexact | wrRoClkdiv | wrRoApproxIter
  | wrRoSolvP | wrRoSolvQ | wrRoSolvIter | wrRoParamCap | wrRoParamCpu =>
    exact .of_rejectWrite h
  | rdBufSilent | rdBufSteady | rdBufRampup | rdBufRampdown => exact .of_bufferRead h
  | wrRoBufSilent | wrRoBufSteady | wrRoBufRampup | wrRoBufRampdown => exact .of_bufferWrite h
  | misaligned | unmapped => exact .of_rejectAccess h
  | wrErr v => exact .of_execWrErr h
  | wrSolvTden v => exact .of_execWrSolvTden h
  | wrTxen v => obtain rfl := Host.Outcome.next.inj h; exact .writesTxen v
  | wrInten v => obtain rfl := Host.Outcome.next.inj h; exact .writesInten v
  | wrIntstat v => obtain rfl := Host.Outcome.next.inj h; exact .clearsIntstat v
  | wrSolvTnum v => obtain rfl := Host.Outcome.next.inj h; exact .writesTnum v
  | wrSolvQmax v => obtain rfl := Host.Outcome.next.inj h; exact .writesQmax v
  | wrFreq v => exact .of_configWrite h (.writesFreq v)
  | wrMode v => exact .of_configWrite h (.writesMode v)
  | wrAmp v => exact .of_configWrite h (.writesAmp v)
  | wrDither v => exact .of_configWrite h (.writesDither v)
  | wrHd3amp v => exact .of_configWrite h (.writesHd3amp v)
  | wrHd3ph v => exact .of_configWrite h fun _ => .writesHd3ph v
  | wrMaxw v => exact .of_configWrite h (.writesMaxw v)
  | wrSeed v => exact .of_configWrite h (.writesSeed v)
  | cmdApply =>
    refine .of_commandGate h fun hfatal hidle hr => ?_
    obtain rfl := Host.Outcome.next.inj hr
    exact .applies hfatal hidle
  | cmdRestorePins =>
    refine .of_commandGate h fun _ _ hr => ?_
    obtain rfl := Host.Outcome.next.inj hr
    exact .restoresPins
  | cmdSolve =>
    refine .of_commandGate h fun _ _ hr => ?_
    obtain rfl := Host.Outcome.next.inj hr
    exact .solves
  | cmdReserved => exact .of_commandGate h fun _ _ hr => .of_rejectWrite hr

/-! ### Agents -/

/-- What an agent's step can do: pass, or one of the updates its rules give. -/
inductive AgentEffect (s : State) : AgentStep → State → Prop
  | passes (a : AgentStep) : AgentEffect s a s
  | emits (active : s.engActive = true) :
      AgentEffect s .engEmit
        (advance (emit (slotPair (memRead s.mem s.engBuf s.engWord.toNat) s.engSlot) s))
  | aborts : AgentEffect s .engAbort { stopEngine s with abortReq := false }
  | acknowledges : AgentEffect s .fsmStep { s with irqPend := false }
  | choosesBuffer (pending : s.irqPend = true) (armed : s.armed = true)
      (idle : s.engActive = false) :
      AgentEffect s .fsmStep (chooseBuffer { s with irqPend := false })
  | leavesHalt (halting : s.seq = .halting) (stopped : s.engActive = false)
      (settled : s.abortReq = false) :
      AgentEffect s .seqPoll { s with seq := .computing, poll := 0 }
  | timesOut (halting : s.seq = .halting) (running : s.engActive = true ∨ s.abortReq = true)
      (exhausted : s.poll + 1 = Config.abortPollMax) :
      AgentEffect s .seqPoll (enterFatal { s with poll := s.poll + 1 })
  | pollsAgain (halting : s.seq = .halting) (left : s.poll + 1 ≠ Config.abortPollMax) :
      AgentEffect s .seqPoll { s with poll := s.poll + 1 }
  | computesDivider (computing : s.seq = .computing) (divider : s.mode = 0#3) :
      AgentEffect s .seqCompute (computeClockDivider s)
  | computesBuffers (computing : s.seq = .computing) (streaming : s.mode ≠ 0#3) :
      AgentEffect s .seqCompute (computeBuffers s)

/-- Every agent's step that answers a next state has one of the effects. -/
theorem agentStep_effect {a : AgentStep} {s t : State} (h : agentStep a s = .next t) :
    AgentEffect s a t := by
  cases a with
  | engEmit =>
    obtain ⟨-, rfl⟩ | ⟨hactive, -, rfl⟩ := engEmit_cases h
    · exact .passes _
    · exact .emits hactive
  | engAbort =>
    obtain rfl := Host.Outcome.next.inj h
    obtain ⟨-, h⟩ | ⟨-, h⟩ := engAbort_cases s <;> rw [h]
    · exact .passes _
    · exact .aborts
  | fsmStep =>
    obtain rfl := Host.Outcome.next.inj h
    obtain ⟨-, h⟩ | ⟨-, -, h⟩ | ⟨hpend, harmed, hidle, h⟩ := fsmStep_cases s <;> rw [h]
    · exact .passes _
    · exact .acknowledges
    · exact .choosesBuffer hpend harmed hidle
  | seqPoll =>
    obtain rfl := Host.Outcome.next.inj h
    obtain ⟨-, h⟩ | ⟨hq, he, ha, h⟩ | ⟨hq, hr, hp, h⟩ | ⟨hq, -, hp, h⟩ := seqPoll_cases s <;>
      rw [h]
    · exact .passes _
    · exact .leavesHalt hq he ha
    · exact .timesOut hq hr hp
    · exact .pollsAgain hq hp
  | seqCompute =>
    obtain rfl := Host.Outcome.next.inj h
    obtain ⟨-, h⟩ | ⟨hq, hm, h⟩ | ⟨hq, hm, h⟩ := seqCompute_cases s <;> rw [h]
    · exact .passes _
    · exact .computesDivider hq hm
    · exact .computesBuffers hq hm

/-- The FSM's choice of the next buffer, one case per row of 43_output_fsm.md R303 to R306. -/
theorem chooseBuffer_cases (s : State) :
    (s.txen = true ∧ s.outputState = .transmitting ∧ chooseBuffer s = arm 1#2 s) ∨
      (s.txen = true ∧ s.outputState = .silent ∧
        chooseBuffer s =
          raiseEvent .keyOn { arm 2#2 s with ind := true, outputState := .transmitting }) ∨
      (s.txen = false ∧ s.outputState = .silent ∧ chooseBuffer s = arm 0#2 s) ∨
      (s.txen = false ∧ s.outputState = .transmitting ∧
        chooseBuffer s =
          raiseEvent .keyOff { arm 3#2 s with ind := false, outputState := .silent }) := by
  unfold chooseBuffer
  cases s.txen <;> cases s.outputState <;> simp

/-- The engine's advance touches its position, ENG_ACTIVE and IRQ_PEND only. -/
theorem advance_frame (s : State) :
    advance s =
      { s with
        engSlot := (advance s).engSlot
        engWord := (advance s).engWord
        engActive := (advance s).engActive
        irqPend := (advance s).irqPend } := by
  obtain ⟨-, h⟩ | ⟨-, -, h⟩ | ⟨-, -, h⟩ := advance_cases s
  · rw [h]
  · rw [h]
  · rw [h]; rfl

/-- The FSM's choice touches the engine, STATE, IND and INTSTAT only. -/
theorem chooseBuffer_frame (s : State) :
    chooseBuffer s =
      { s with
        engBuf := (chooseBuffer s).engBuf
        engWord := (chooseBuffer s).engWord
        engSlot := (chooseBuffer s).engSlot
        engActive := (chooseBuffer s).engActive
        ind := (chooseBuffer s).ind
        outputState := (chooseBuffer s).outputState
        intstat := (chooseBuffer s).intstat } := by
  obtain ⟨-, -, h⟩ | ⟨-, -, h⟩ | ⟨-, -, h⟩ | ⟨-, -, h⟩ := chooseBuffer_cases s <;> (rw [h]; rfl)

/-! ### Steps -/

/-- One step takes the next turn and has its effect. -/
theorem step_effect {s t : State} (h : step s = .next t) :
    t = s ∨
      (∃ tw rest, nextTurn s = some (.host tw) ∧
        HostEffect (withInput rest s) (decodeTw tw) t) ∨
      (∃ a rest, nextTurn s = some (.agent a) ∧ AgentEffect (withInput rest s) a t) ∨
      (nextTurn s = some .reset ∧ ∃ rest, t = withInput rest State.reset) := by
  obtain ⟨-, rfl⟩ | ⟨tw, rest, hin, h⟩ | ⟨a, rest, hin, h⟩ | ⟨rest, hin, rfl⟩ := step_cases h
  · exact .inl rfl
  · exact .inr (.inl ⟨tw, rest, by simp [nextTurn, hin], exec_effect h⟩)
  · exact .inr (.inr (.inl ⟨a, rest, by simp [nextTurn, hin], agentStep_effect h⟩))
  · exact .inr (.inr (.inr ⟨by simp [nextTurn, hin], rest, rfl⟩))

/-- The induction step of an invariant that does not look at the schedule: it holds at reset and
every effect keeps it. -/
theorem step_preserves {P : State → Prop} (schedule : ∀ {s : State} (ts), P s → P (withInput ts s))
    (host : ∀ {i s t}, HostEffect s i t → P s → P t)
    (agent : ∀ {a s t}, AgentEffect s a t → P s → P t) (reset : P State.reset)
    {s t : State} (hs : P s) (h : step s = .next t) : P t := by
  obtain rfl | ⟨_, rest, -, he⟩ | ⟨_, rest, -, he⟩ | ⟨-, rest, rfl⟩ := step_effect h
  · exact hs
  · exact host he (schedule rest hs)
  · exact agent he (schedule rest hs)
  · exact schedule rest reset

end Sys2Proof.Machine
end

section
/-! PROOFS. Every ranged register keeps a legal value (10_state.md R29 to R48). The solver's
brackets stay ratios in [0, 1] whose denominators stay in range, so its results do
(41_rational_solver.md R203 to R211). -/

namespace Sys2Proof.Machine

/-! ### The solver's brackets -/

/-- The brackets are ratios from 0 to 1 with denominators from 1 to `qmax` (R203, R209). -/
structure BracketsInv (qmax : Int) (k : Brackets) : Prop where
  left_ratio : 0 ≤ k.a ∧ k.a ≤ k.b
  right_ratio : 0 ≤ k.c ∧ k.c ≤ k.d
  left_den : 1 ≤ k.b ∧ k.b ≤ qmax
  right_den : 1 ≤ k.d ∧ k.d ≤ qmax

theorem firstBrackets_inv {qmax : Int} (h : 1 ≤ qmax) : BracketsInv qmax firstBrackets :=
  ⟨by decide, by decide, ⟨le_rfl, h⟩, ⟨le_rfl, h⟩⟩

/-- The clamp of R209: at least one step, and no step past `qmax`. -/
theorem passCount_bounds {num den qmax fixed other : Int} (hother : 1 ≤ other)
    (hroom : fixed + other ≤ qmax) :
    1 ≤ passCount num den qmax fixed other ∧
      fixed + passCount num den qmax fixed other * other ≤ qmax := by
  have hone : 1 ≤ (qmax - fixed) / other := by
    rw [Int.le_ediv_iff_mul_le (by omega)]
    omega
  have hmul : (qmax - fixed) / other * other ≤ qmax - fixed := Int.ediv_mul_le _ (by omega)
  have hle : passCount num den qmax fixed other ≤ (qmax - fixed) / other := min_le_right _ _
  have := Int.mul_le_mul_of_nonneg_right hle (by omega : 0 ≤ other)
  exact ⟨le_min (le_max_right _ _) hone, by omega⟩

/-- The ratio `(a + n * c) / (b + n * d)` that a pass puts in place of `a / b` stays in [0, 1]. -/
theorem mediant_ratio {a b c d n : Int} (hn : 1 ≤ n) (hab : 0 ≤ a ∧ a ≤ b)
    (hcd : 0 ≤ c ∧ c ≤ d) :
    0 ≤ a + n * c ∧ a + n * c ≤ b + n * d ∧ b ≤ b + n * d := by
  have hc := Int.mul_nonneg (by omega : 0 ≤ n) hcd.1
  have hd := Int.mul_le_mul_of_nonneg_left hcd.2 (by omega : 0 ≤ n)
  omega

theorem leftPass_inv {x y qmax : Int} {k k' : Brackets} (hk : BracketsInv qmax k)
    (hroom : k.b + k.d ≤ qmax) (h : leftPass x y qmax k = some k') :
    BracketsInv qmax k' ∧ k'.it = k.it + 1 := by
  unfold leftPass at h
  split at h
  · cases h
  · obtain rfl := Option.some.inj h
    obtain ⟨hn, hmax⟩ := passCount_bounds (num := leftDistance x y k)
      (den := rightDistance x y k) hk.right_den.1 hroom
    obtain ⟨h0, h1, hgrow⟩ := mediant_ratio hn hk.left_ratio hk.right_ratio
    exact ⟨{ hk with
      left_ratio := ⟨h0, h1⟩, left_den := ⟨hk.left_den.1.trans hgrow, hmax⟩ }, rfl⟩

theorem rightPass_inv {x y qmax : Int} {k k' : Brackets} (hk : BracketsInv qmax k)
    (hroom : k.b + k.d ≤ qmax) (h : rightPass x y qmax k = some k') :
    BracketsInv qmax k' ∧ k'.it = k.it + 1 := by
  unfold rightPass at h
  split at h
  · cases h
  · obtain rfl := Option.some.inj h
    obtain ⟨hn, hmax⟩ := passCount_bounds (num := rightDistance x y k)
      (den := leftDistance x y k) hk.left_den.1 (by omega : k.d + k.b ≤ qmax)
    obtain ⟨h0, h1, hgrow⟩ := mediant_ratio hn hk.right_ratio hk.left_ratio
    exact ⟨{ hk with
      right_ratio := ⟨h0, h1⟩, right_den := ⟨hk.right_den.1.trans hgrow, hmax⟩ }, rfl⟩

theorem solverPass_inv {x y qmax : Int} {k k' : Brackets} (hk : BracketsInv qmax k)
    (h : solverPass x y qmax k = some k') : BracketsInv qmax k' ∧ k'.it = k.it + 1 := by
  obtain ⟨hroom, ⟨-, hpass⟩ | ⟨-, hpass⟩⟩ := solverPass_cases h
  · exact leftPass_inv hk hroom hpass
  · exact rightPass_inv hk hroom hpass

/-- The loop keeps the brackets' invariant and counts at most one iteration per pass. -/
theorem solverSearch_inv {x y qmax : Int} (n : Nat) :
    ∀ {k : Brackets}, BracketsInv qmax k →
      BracketsInv qmax (solverSearch x y qmax n k) ∧
        (solverSearch x y qmax n k).it ≤ k.it + n := by
  induction n with
  | zero => exact fun hk => ⟨hk, le_rfl⟩
  | succ n ih =>
    intro k hk
    unfold solverSearch
    split
    · exact ⟨hk, by omega⟩
    · next k' hpass =>
      obtain ⟨hk', hit⟩ := solverPass_inv hk hpass
      obtain ⟨hinv, hle⟩ := ih hk'
      exact ⟨hinv, by omega⟩

/-- A result of the solver: a ratio from 0 to 1, its denominator from 1 to `qmax`, within the
iteration cap (R46 to R48). -/
structure IsRatio (qmax : Int) (r : Approximation) : Prop where
  num_nonneg : 0 ≤ r.p
  num_le_den : r.p ≤ r.q
  den_pos : 1 ≤ r.q
  den_le : r.q ≤ max qmax 1
  capped : r.it ≤ 100

theorem selectBracket_isRatio {x y qmax : Int} {k : Brackets} (hk : BracketsInv (max qmax 1) k)
    (hit : k.it ≤ 100) : IsRatio qmax (selectBracket x y k) := by
  unfold selectBracket
  split
  · exact ⟨hk.left_ratio.1, hk.left_ratio.2, hk.left_den.1, hk.left_den.2, hit⟩
  · exact ⟨hk.right_ratio.1, hk.right_ratio.2, hk.right_den.1, hk.right_den.2, hit⟩

theorem solve_isRatio (x y qmax : Int) : IsRatio qmax (solve x y qmax) := by
  have hq : 1 ≤ max qmax 1 := le_max_right _ _
  unfold solve
  split
  · exact ⟨by decide, le_rfl, le_rfl, hq, by decide⟩
  split
  · exact ⟨le_rfl, by decide, le_rfl, hq, by decide⟩
  · obtain ⟨hinv, hit⟩ :=
      solverSearch_inv (x := x) (y := y) iterationCap (firstBrackets_inv hq)
    exact selectBracket_isRatio hinv hit

/-- The calculation scales a ratio up to whole periods of at most `bufCap` words (R354). -/
theorem calculate_bounds (cpuHz freq maxw : Nat) {bufCap : Nat} (hcap : 1 ≤ bufCap) :
    let c := calculate cpuHz bufCap freq maxw
    1 ≤ c.words ∧ c.words ≤ bufCap ∧ c.periods ≤ c.words ∧ c.iterations ≤ 100 := by
  have hr := solve_isRatio freq (4 * cpuHz) (min maxw bufCap)
  unfold calculate
  generalize solve freq (4 * cpuHz) (min maxw bufCap) = r at hr ⊢
  obtain ⟨h0, hpq, hq, hqmax, hit⟩ := hr
  have hqpos : 0 < r.q.toNat := by omega
  have hqcap : r.q.toNat ≤ bufCap := by omega
  exact ⟨Nat.mul_pos (Nat.div_pos hqcap hqpos) hqpos, Nat.div_mul_le_self _ _,
    Nat.mul_le_mul_left _ (by omega), hit⟩

/-- What the compute step stores of its calculation (R353, R354). -/
theorem calculation_bounds (s : State) :
    1 ≤ (calculation s).words ∧ (calculation s).words ≤ Config.bufCap ∧
      (calculation s).periods ≤ (calculation s).words ∧ (calculation s).iterations ≤ 100 :=
  calculate_bounds _ _ _ (by have := Config.two_le_bufCap; omega)

/-! ### Narrow stores -/

theorem store_toNat_of_lt {n : Nat} {v : Word} (h : v.toNat < 2 ^ n) :
    (store n v).toNat = v.toNat := by
  rw [store, BitVec.toNat_setWidth, Nat.mod_eq_of_lt h]

theorem toNat_ofNat_of_lt {n v : Nat} (h : v < 2 ^ n) : (BitVec.ofNat n v).toNat = v := by
  rw [BitVec.toNat_ofNat, Nat.mod_eq_of_lt h]

theorem toNat_ofInt_of_lt {n : Nat} {v : Int} (h0 : 0 ≤ v) (h : v < 2 ^ n) :
    (BitVec.ofInt n v).toNat = v.toNat := by
  rw [BitVec.toNat_ofInt, Int.emod_eq_of_lt h0 (by exact_mod_cast h)]

/-! ### Host operations -/

theorem errorCode_named (c : ErrorCode) : 1 ≤ c.bits.toNat ∧ c.bits.toNat ≤ 9 := by
  cases c <;> decide

/-- Recording an error leaves a code of 60_exceptions.md R451 in ERR. -/
theorem record_registerInv {s : State} (hs : RegisterInv s) (c : ErrorCode) :
    RegisterInv (record c s) := by
  refine { hs with no_error_clear := fun h => (nomatch h), error_code_named := fun _ => ?_ }
  rw [record_errCode]
  split
  · next hvalid => exact hs.error_code_named hvalid
  · exact errorCode_named c

theorem applyStart_registerInv {s : State} (hs : RegisterInv s) : RegisterInv (applyStart s) := by
  obtain ⟨-, h⟩ | ⟨-, -, h⟩ | ⟨-, -, h⟩ := applyStart_cases s <;> rw [h] <;> exact { hs with }

/-- SOLVE stores a ratio from 0 to 1 with no loss, since SOLV_QMAX fits its register (R215). -/
theorem solveRegisters_registerInv {s : State} (hs : RegisterInv s) :
    RegisterInv (solveRegisters s) := by
  obtain ⟨h0, hpq, hq, hqmax, hit⟩ :=
    solve_isRatio s.solvTnum.toInt s.solvTden.toNat s.solvQmax.toNat
  have hwidth := s.solvQmax.isLt
  have hp : (solveRegisters s).solvP.toNat = _ := toNat_ofInt_of_lt h0 (by omega)
  have hd : (solveRegisters s).solvQ.toNat = _ := toNat_ofInt_of_lt (by omega) (by omega)
  have hi : (solveRegisters s).solvIter.toNat = _ := toNat_ofNat_of_lt (by omega)
  refine { hs with solved_ratio := ⟨fun hzero => ?_, by omega⟩, iterations_capped := ?_ }
  · rw [hzero, BitVec.toNat_ofNat] at hd
    omega
  · exact ⟨hs.iterations_capped.1, by omega⟩

theorem hostEffect_registerInv {i : Instr} {s t : State} (h : HostEffect s i t)
    (hs : RegisterInv s) : RegisterInv t := by
  cases h with
  | answers | writesTxen | writesInten | clearsIntstat | writesHd3ph | writesTnum | writesQmax
  | restoresPins => exact { hs with }
  | rejects _ c => exact { record_registerInv hs c with }
  | clearsErr =>
    exact { hs with no_error_clear := fun _ => ⟨rfl, rfl⟩, error_code_named := fun h => nomatch h }
  | writesFreq v legal => exact { hs with freq_legal := by simpa [legalFreq] using legal }
  | writesMode v legal =>
    have : v.toNat ≤ 5 := by simpa [legalMode] using legal
    exact { hs with mode_legal := (store_toNat_of_lt (n := 3) (by omega)).trans_le this }
  | writesAmp v legal =>
    have : v.toNat ≤ 0x20000 := by simpa [legalAmp] using legal
    exact { hs with amp_legal := (store_toNat_of_lt (n := 18) (by omega)).trans_le this }
  | writesDither v legal =>
    have : v.toNat ≤ 0x20000 := by simpa [legalDither] using legal
    exact { hs with dither_legal := (store_toNat_of_lt (n := 18) (by omega)).trans_le this }
  | writesHd3amp v legal => exact { hs with hd3amp_legal := by simpa [legalHd3amp] using legal }
  | writesMaxw v legal =>
    have hv : 2 ≤ v.toNat ∧ v.toNat ≤ 10000 := by simpa [legalMaxw] using legal
    exact { hs with maxw_legal := (store_toNat_of_lt (n := 14) (v := v) (by omega)).symm ▸ hv }
  | writesSeed v legal => exact { hs with seed_legal := by simpa [legalSeed] using legal }
  | writesTden v legal => exact { hs with tden_legal := by simpa [legalTden] using legal }
  | applies => exact { applyStart_registerInv hs with }
  | solves => exact { solveRegisters_registerInv hs with }

/-! ### Agents -/

theorem agentEffect_registerInv {a : AgentStep} {s t : State} (h : AgentEffect s a t)
    (hs : RegisterInv s) : RegisterInv t := by
  cases h with
  | passes => exact hs
  | emits => rw [advance_frame]; exact { hs with }
  | aborts | acknowledges | leavesHalt | pollsAgain | computesDivider => exact { hs with }
  | choosesBuffer => rw [chooseBuffer_frame]; exact { hs with }
  | timesOut => exact { record_registerInv hs .abortTimeout with }
  | computesBuffers =>
    obtain ⟨-, -, -, hit⟩ := calculation_bounds s
    have hi : (computeBuffers s).approxIter.toNat = _ := toNat_ofNat_of_lt (by omega)
    exact { hs with iterations_capped := ⟨by omega, hs.iterations_capped.2⟩ }

theorem reset_registerInv : RegisterInv State.reset := by
  constructor <;> decide

/-- Settles O14: every effect of a step keeps the ranged registers legal. -/
theorem stepKeepsLegalRegisters : Obligations.StepKeepsLegalRegisters := fun _ _ =>
  step_preserves (fun _ hs => { hs with }) hostEffect_registerInv agentEffect_registerInv
    reset_registerInv

end Sys2Proof.Machine
end

section
/-! PROOFS. The control invariants (10_state.md R68) hold after every step. A compute step finds the
engine idle and the trigger off, and leaves 1 to BUF_CAP words. -/

namespace Sys2Proof.Machine

/-! ### What the invariants give while the sequencer is busy -/

theorem ControlInv.not_fatal_of_busy {s : State} (hs : ControlInv s) (hq : s.seq ≠ .idle) :
    s.fatal ≠ true := fun hf => hq (hs.fatal_degraded hf).1

theorem ControlInv.no_abort_of_computing {s : State} (hs : ControlInv s)
    (hq : s.seq = .computing) : s.abortReq ≠ true := by
  intro ha
  have hbusy : s.seq ≠ .idle := by simp [hq]
  obtain h | h := hs.abort_owner ha
  · rw [hq] at h
    cases h
  · exact hs.not_fatal_of_busy hbusy h

/-! ### Host operations -/

/-- An accepted APPLY starts a halt, which owns the abort, or the computation of an idle engine. -/
theorem applyStart_controlInv {s : State} (hs : ControlInv s) (sound : s.fatal = false)
    (idle : s.seq = .idle) : ControlInv (applyStart s) := by
  obtain ⟨-, h⟩ | ⟨-, -, h⟩ | ⟨-, harmed, h⟩ := applyStart_cases s <;> rw [h]
  · exact hs
  · exact { hs with
      computing_engine_idle := fun hq => nomatch hq
      armed_ready := fun ha => nomatch ha
      unarmed_engine_idle := fun _ hq => nomatch hq
      busy_unarmed := fun _ => rfl
      abort_owner := fun _ => .inl rfl
      fatal_degraded := fun hf => absurd hf (by simp [sound])
      poll_budget := ⟨Nat.zero_le _, fun _ => Config.one_le_abortPollMax⟩ }
  · exact { hs with
      computing_engine_idle := fun _ => hs.unarmed_engine_idle harmed idle sound
      unarmed_engine_idle := fun _ hq => nomatch hq
      busy_unarmed := fun _ => harmed
      abort_owner := fun ha => absurd (hs.abort_owner ha) (by simp [idle, sound])
      fatal_degraded := fun hf => absurd hf (by simp [sound])
      poll_budget := ⟨hs.poll_budget.1, fun hq => nomatch hq⟩ }

theorem hostEffect_controlInv {i : Instr} {s t : State} (h : HostEffect s i t)
    (hs : ControlInv s) : ControlInv t := by
  cases h with
  | applies sound idle => exact { applyStart_controlInv hs sound idle with }
  | restoresPins =>
    exact { hs with
      fatal_degraded := fun hf =>
        let ⟨hq, harmed, _, hout⟩ := hs.fatal_degraded hf
        ⟨hq, harmed, rfl, hout⟩ }
  | _ => exact { hs with }

/-! ### The engine -/

/-- Going idle satisfies every clause that speaks of the engine. -/
theorem stopEngine_controlInv {s : State} (hs : ControlInv s) : ControlInv (stopEngine s) :=
  { hs with
    computing_engine_idle := fun _ => rfl
    unarmed_engine_idle := fun _ _ _ => rfl
    active_word_played := fun ha => nomatch ha }

/-- The engine moves on only to a word below NWORDS (43_output_fsm.md R321, R323). -/
theorem advance_controlInv {s : State} (hs : ControlInv s) : ControlInv (advance s) := by
  obtain ⟨-, h⟩ | ⟨-, hword, h⟩ | ⟨-, -, h⟩ := advance_cases s <;> rw [h]
  · exact { hs with }
  · refine { hs with active_word_played := fun _ => ?_ }
    simp only [BitVec.toNat_add, BitVec.toNat_ofNat]
    omega
  · exact { stopEngine_controlInv hs with }

/-- Once the trigger is armed, starting a buffer is safe: the sequencer is idle and there is a word
to play. -/
theorem arm_controlInv {s : State} (hs : ControlInv s) (armed : s.armed = true) (b : BitVec 2) :
    ControlInv (arm b s) :=
  { hs with
    computing_engine_idle := fun hq =>
      absurd armed (by simp [hs.busy_unarmed (by simp [show s.seq = .computing from hq])])
    unarmed_engine_idle := fun ha => absurd armed (by simp [show s.armed = false from ha])
    active_word_played := fun _ => (hs.armed_ready armed).2.2 }

theorem chooseBuffer_controlInv {s : State} (hs : ControlInv s) (armed : s.armed = true) :
    ControlInv (chooseBuffer s) := by
  obtain ⟨-, -, h⟩ | ⟨-, -, h⟩ | ⟨-, -, h⟩ | ⟨-, -, h⟩ := chooseBuffer_cases s <;> rw [h]
  · exact arm_controlInv hs armed _
  · exact { arm_controlInv hs armed 2#2 with
      indicator_follows_state := iff_of_true rfl rfl }
  · exact arm_controlInv hs armed _
  · exact { arm_controlInv hs armed 3#2 with
      indicator_follows_state := iff_of_false Bool.false_ne_true (nomatch ·) }

/-! ### The sequencer -/

theorem leaveHalt_controlInv {s : State} (hs : ControlInv s) (halting : s.seq = .halting)
    (stopped : s.engActive = false) (settled : s.abortReq = false) :
    ControlInv { s with seq := .computing, poll := 0 } :=
  have hbusy : s.seq ≠ .idle := by simp [halting]
  { hs with
    computing_engine_idle := fun _ => stopped
    unarmed_engine_idle := fun _ _ _ => stopped
    busy_unarmed := fun _ => hs.busy_unarmed hbusy
    abort_owner := fun ha => absurd ha (by simp [settled])
    fatal_degraded := fun hf => absurd hf (hs.not_fatal_of_busy hbusy)
    poll_budget := ⟨Nat.zero_le _, fun hq => nomatch hq⟩ }

/-- FATAL entry (44_controller.md R348). -/
theorem enterFatal_controlInv {s : State} (hs : ControlInv s)
    (exhausted : s.poll + 1 = Config.abortPollMax) :
    ControlInv (enterFatal { s with poll := s.poll + 1 }) :=
  { hs with
    computing_engine_idle := fun hq => nomatch hq
    armed_ready := fun ha => nomatch ha
    unarmed_engine_idle := fun _ _ hf => nomatch hf
    busy_unarmed := fun _ => rfl
    abort_owner := fun _ => .inr rfl
    fatal_degraded := fun _ => ⟨rfl, rfl, rfl, rfl⟩
    poll_budget := ⟨exhausted.le, fun hq => nomatch hq⟩ }

theorem pollAgain_controlInv {s : State} (hs : ControlInv s) (halting : s.seq = .halting)
    (left : s.poll + 1 ≠ Config.abortPollMax) : ControlInv { s with poll := s.poll + 1 } := by
  have hlt := hs.poll_budget.2 halting
  exact { hs with poll_budget := ⟨hlt, fun _ => lt_of_le_of_ne hlt left⟩ }

/-- Completion (44_controller.md R358) of a computation that leaves the trigger off. -/
theorem finishCompute_controlInv {s : State} (hs : ControlInv s) (computing : s.seq = .computing)
    (program : OutSel) : ControlInv (finishCompute { s with outsel := program }) :=
  have hbusy : s.seq ≠ .idle := by simp [computing]
  have unarmed := hs.busy_unarmed hbusy
  { hs with
    computing_engine_idle := fun hq => nomatch hq
    armed_ready := fun ha => absurd unarmed (by simp [show s.armed = true from ha])
    unarmed_engine_idle := fun _ _ _ => hs.computing_engine_idle computing
    busy_unarmed := fun _ => unarmed
    abort_owner := fun ha => absurd ha (hs.no_abort_of_computing computing)
    fatal_degraded := fun hf => absurd hf (hs.not_fatal_of_busy hbusy)
    poll_budget := ⟨hs.poll_budget.1, fun hq => nomatch hq⟩ }

/-- The word and period counts fit their registers (10_state.md R37, R38). -/
theorem computeBuffers_counts (s : State) :
    (computeBuffers s).nwords.toNat = (calculation s).words ∧
      (computeBuffers s).nperiods.toNat = (calculation s).periods := by
  obtain ⟨-, hwords, hperiods, -⟩ := calculation_bounds s
  have := Config.bufCap_le
  exact ⟨toNat_ofNat_of_lt (by omega), toNat_ofNat_of_lt (by omega)⟩

theorem computeBuffers_controlInv {s : State} (hs : ControlInv s)
    (computing : s.seq = .computing) : ControlInv (computeBuffers s) := by
  obtain ⟨hpos, hcap, hperiods, -⟩ := calculation_bounds s
  obtain ⟨hw, hp⟩ := computeBuffers_counts s
  exact { finishCompute_controlInv hs computing .serial with
    computing_engine_idle := fun hq => nomatch hq
    armed_ready := fun _ => ⟨rfl, rfl, by omega⟩
    unarmed_engine_idle := fun ha => nomatch ha
    active_word_played := fun _ => by rw [hw]; exact hpos
    periods_words_capacity := by rw [hw, hp]; exact ⟨hperiods, hcap⟩
    busy_unarmed := fun hq => absurd rfl hq
    fatal_degraded := fun hf => absurd hf (hs.not_fatal_of_busy (by simp [computing])) }

theorem agentEffect_controlInv {a : AgentStep} {s t : State} (h : AgentEffect s a t)
    (hs : ControlInv s) : ControlInv t := by
  cases h with
  | passes => exact hs
  | emits => exact advance_controlInv { hs with }
  | aborts => exact { stopEngine_controlInv hs with abort_owner := fun ha => nomatch ha }
  | acknowledges => exact { hs with }
  | choosesBuffer _ armed => exact chooseBuffer_controlInv { hs with } armed
  | leavesHalt halting stopped settled => exact leaveHalt_controlInv hs halting stopped settled
  | timesOut _ _ exhausted => exact enterFatal_controlInv hs exhausted
  | pollsAgain halting left => exact pollAgain_controlInv hs halting left
  | computesDivider computing => exact { finishCompute_controlInv hs computing .clkdiv with }
  | computesBuffers computing => exact computeBuffers_controlInv hs computing

theorem reset_controlInv : ControlInv State.reset where
  computing_engine_idle _ := rfl
  armed_ready h := nomatch h
  unarmed_engine_idle _ _ _ := rfl
  active_word_played h := nomatch h
  periods_words_capacity := ⟨le_rfl, Nat.zero_le _⟩
  busy_unarmed _ := rfl
  indicator_follows_state := by decide
  abort_owner h := nomatch h
  fatal_degraded h := nomatch h
  poll_budget := ⟨Nat.zero_le _, fun h => nomatch h⟩

/-- Settles O11: every effect of a step keeps the control invariants. -/
theorem stepKeepsControlInvariants : Obligations.StepKeepsControlInvariants := fun _ _ =>
  step_preserves (fun _ hs => { hs with }) hostEffect_controlInv agentEffect_controlInv
    reset_controlInv

end Sys2Proof.Machine
end

section
/-! PROOFS. Which step changes FATAL, STATE, the trace and the bits of INTSTAT (10_state.md R28, R54,
R55, R64). A host operation and most agents' steps leave all four alone or do one thing to them. -/

namespace Sys2Proof.Machine

/-! ### FATAL, STATE and the trace -/

/-- No host operation touches FATAL, STATE or the trace. -/
theorem hostEffect_output_frame {i : Instr} {s t : State} (h : HostEffect s i t) :
    t.fatal = s.fatal ∧ t.outputState = s.outputState ∧ t.trace = s.trace := by
  cases h with
  | applies =>
    obtain ⟨-, h⟩ | ⟨-, -, h⟩ | ⟨-, -, h⟩ := applyStart_cases s <;> simp [h]
  | _ => exact ⟨rfl, rfl, rfl⟩

@[simp] theorem advance_fatal (s : State) : (advance s).fatal = s.fatal := by
  rw [advance_frame]

@[simp] theorem advance_outputState (s : State) : (advance s).outputState = s.outputState := by
  rw [advance_frame]

@[simp] theorem advance_trace (s : State) : (advance s).trace = s.trace := by
  rw [advance_frame]

@[simp] theorem advance_intstat (s : State) : (advance s).intstat = s.intstat := by
  rw [advance_frame]

@[simp] theorem chooseBuffer_fatal (s : State) : (chooseBuffer s).fatal = s.fatal := by
  rw [chooseBuffer_frame]

@[simp] theorem chooseBuffer_trace (s : State) : (chooseBuffer s).trace = s.trace := by
  rw [chooseBuffer_frame]

/-- An agent's step that changes FATAL is the poll that exhausts the budget, and sets it. -/
theorem agentEffect_fatal {a : AgentStep} {s t : State} (h : AgentEffect s a t) :
    t.fatal = s.fatal ∨
      (t.fatal = true ∧ a = .seqPoll ∧ s.seq = .halting ∧
        (s.engActive = true ∨ s.abortReq = true) ∧ s.poll + 1 = Config.abortPollMax) := by
  cases h with
  | timesOut halting running exhausted => exact .inr ⟨rfl, rfl, halting, running, exhausted⟩
  | emits => exact .inl (advance_fatal _)
  | choosesBuffer => exact .inl (chooseBuffer_fatal _)
  | _ => exact .inl rfl

/-- A step that changes FATAL is that poll, or a reset. -/
theorem step_fatal {s t : State} (h : step s = .next t) :
    t.fatal = s.fatal ∨
      (t.fatal = true ∧ nextTurn s = some (.agent .seqPoll) ∧ s.seq = .halting ∧
        (s.engActive = true ∨ s.abortReq = true) ∧ s.poll + 1 = Config.abortPollMax) ∨
      (t.fatal = false ∧ nextTurn s = some .reset) := by
  obtain rfl | ⟨tw, rest, -, he⟩ | ⟨a, rest, hturn, he⟩ | ⟨hturn, rest, rfl⟩ := step_effect h
  · exact .inl rfl
  · exact .inl (hostEffect_output_frame he).1
  · obtain hkeep | ⟨hset, rfl, hcause⟩ := agentEffect_fatal he
    · exact .inl hkeep
    · exact .inr (.inl ⟨hset, hturn, hcause⟩)
  · exact .inr (.inr ⟨rfl, hturn⟩)

/-- Settles O18. -/
theorem fatalIsEnteredByTimeoutAndLeftByReset :
    Obligations.FatalIsEnteredByTimeoutAndLeftByReset := by
  intro s t h
  obtain hkeep | ⟨hset, hcause⟩ | ⟨hclear, hturn⟩ := step_fatal h
  · rw [hkeep]
    exact ⟨fun hf hf' => by simp [hf] at hf', fun hf hf' => by simp [hf] at hf'⟩
  · exact ⟨fun _ _ => hcause, fun _ hf' => by simp [hset] at hf'⟩
  · exact ⟨fun _ hf' => by simp [hclear] at hf', fun _ _ => hturn⟩

/-- From `s` to `t` the engine starts the ramp of STATE's edge, which is the edge TXEN asks for
(43_output_fsm.md R304, R306). -/
def StartsRamp (s t : State) : Prop :=
  t.engActive = true ∧ t.engWord = 0#15 ∧ t.engSlot = 0#4 ∧
    (t.outputState = .transmitting → s.txen = true ∧ t.engBuf = 2#2 ∧ t.ind = true) ∧
    (t.outputState = .silent → s.txen = false ∧ t.engBuf = 3#2 ∧ t.ind = false)

/-- Where the FSM's choice leaves STATE alone it plays on in steady or silent, else it starts the
ramp of the edge. -/
theorem chooseBuffer_outputState (s : State) :
    (chooseBuffer s).outputState = s.outputState ∨ StartsRamp s (chooseBuffer s) := by
  obtain ⟨-, -, h⟩ | ⟨htx, -, h⟩ | ⟨-, -, h⟩ | ⟨htx, -, h⟩ := chooseBuffer_cases s <;> rw [h]
  · exact .inl rfl
  · exact .inr ⟨rfl, rfl, rfl, fun _ => ⟨htx, rfl, rfl⟩, fun ht => OutputState.noConfusion ht⟩
  · exact .inl rfl
  · exact .inr ⟨rfl, rfl, rfl, fun ht => OutputState.noConfusion ht, fun _ => ⟨htx, rfl, rfl⟩⟩

/-- The FSM's choice is steady only in Transmitting and silent only in Silent (R308). -/
theorem chooseBuffer_steady_or_silent (s : State) :
    ((chooseBuffer s).engBuf = 1#2 → s.outputState = .transmitting) ∧
      ((chooseBuffer s).engBuf = 0#2 → s.outputState = .silent) := by
  obtain ⟨-, hst, h⟩ | ⟨-, -, h⟩ | ⟨-, hst, h⟩ | ⟨-, -, h⟩ := chooseBuffer_cases s <;>
    simp [*]

/-- An agent's step that changes STATE is an FSM step past its gate, which starts the ramp. -/
theorem agentEffect_outputState {a : AgentStep} {s t : State} (h : AgentEffect s a t) :
    t.outputState = s.outputState ∨
      (a = .fsmStep ∧ s.irqPend = true ∧ s.armed = true ∧ s.engActive = false ∧
        StartsRamp s t) := by
  cases h with
  | choosesBuffer pending armed idle =>
    obtain hkeep | hramp := chooseBuffer_outputState { s with irqPend := false }
    · exact .inl hkeep
    · exact .inr ⟨rfl, pending, armed, idle, hramp⟩
  | emits => exact .inl (advance_outputState _)
  | _ => exact .inl rfl

/-- A step that changes STATE is such an FSM step, or a reset. -/
theorem step_outputState {s t : State} (h : step s = .next t) :
    t.outputState = s.outputState ∨ nextTurn s = some .reset ∨
      (nextTurn s = some (.agent .fsmStep) ∧ s.irqPend = true ∧ s.armed = true ∧
        s.engActive = false ∧ StartsRamp s t) := by
  obtain rfl | ⟨tw, rest, -, he⟩ | ⟨a, rest, hturn, he⟩ | ⟨hturn, -⟩ := step_effect h
  · exact .inl rfl
  · exact .inl (hostEffect_output_frame he).2.1
  · obtain hkeep | ⟨rfl, hramp⟩ := agentEffect_outputState he
    · exact .inl hkeep
    · exact .inr (.inr ⟨hturn, hramp⟩)
  · exact .inr (.inl hturn)

/-- An FSM step that starts the idle engine makes the FSM's choice. -/
theorem agentEffect_fsmStep_starts {s t : State} (h : AgentEffect s .fsmStep t)
    (idle : s.engActive = false) (started : t.engActive = true) :
    t = chooseBuffer { s with irqPend := false } := by
  cases h with
  | choosesBuffer => rfl
  | passes | acknowledges => exact absurd started (by simp [idle])

/-- Settles O21. -/
theorem outputStateChangesOnlyWithItsRamp : Obligations.OutputStateChangesOnlyWithItsRamp := by
  intro s t h
  refine ⟨fun hchange hreset => ?_, fun hfsm idle started => ?_⟩
  · obtain hkeep | hturn | hramp := step_outputState h
    · exact absurd hkeep hchange
    · exact absurd hturn hreset
    · exact hramp
  · obtain rfl | ⟨tw, rest, hturn, -⟩ | ⟨a, rest, hturn, he⟩ | ⟨hturn, -⟩ := step_effect h
    · exact absurd started (by simp [idle])
    · simp [hturn] at hfsm
    · obtain rfl : a = .fsmStep := by simpa [hturn] using hfsm
      rw [agentEffect_fsmStep_starts he idle started]
      exact chooseBuffer_steady_or_silent _
    · simp [hturn] at hfsm

/-- An agent's step that changes the trace is the emission of an active engine. -/
theorem agentEffect_trace {a : AgentStep} {s t : State} (h : AgentEffect s a t) :
    t.trace = s.trace ∨
      (a = .engEmit ∧ s.engActive = true ∧
        t.trace = s.trace ++
          [⟨slotPair (memRead s.mem s.engBuf s.engWord.toNat) s.engSlot, s.pinOwn, s.outsel⟩]) := by
  cases h with
  | emits active => exact .inr ⟨rfl, active, advance_trace _⟩
  | choosesBuffer => exact .inl (chooseBuffer_trace _)
  | _ => exact .inl rfl

/-- Settles O22. -/
theorem traceGrowsOnlyByEmission : Obligations.TraceGrowsOnlyByEmission := by
  intro s t h
  obtain rfl | ⟨tw, rest, -, he⟩ | ⟨a, rest, hturn, he⟩ | ⟨hturn, rest, rfl⟩ := step_effect h
  · exact .inl rfl
  · exact .inl (hostEffect_output_frame he).2.2
  · obtain hkeep | ⟨rfl, active, hgrow⟩ := agentEffect_trace he
    · exact .inl hkeep
    · exact .inr (.inl ⟨hturn, active, hgrow⟩)
  · exact .inr (.inr ⟨hturn, rfl⟩)

/-! ### INTSTAT -/

/-- The position of an event's bit in INTSTAT (10_state.md R28). -/
def Event.bit : Event → Nat
  | .err => 0
  | .applyDone => 1
  | .keyOn => 2
  | .keyOff => 3

theorem Event.bit_lt (e : Event) : e.bit < 4 := by
  cases e <;> decide

theorem Event.bit_injective {e e' : Event} (h : e.bit = e'.bit) : e = e' := by
  cases e <;> cases e' <;> cases h <;> rfl

theorem Event.getLsbD_mask (e : Event) {j : Nat} (hj : j < 4) :
    e.mask.getLsbD j = decide (j = e.bit) := by
  cases e <;> decide +revert

/-- ERR and INTSTAT in `t` are as `record c` leaves them (60_exceptions.md R452). -/
def Records (c : ErrorCode) (s t : State) : Prop :=
  t.errCode = (record c s).errCode ∧ t.errOvf = (record c s).errOvf ∧
    t.errValid = (record c s).errValid ∧ t.intstat = (record c s).intstat

/-- The event happens in the step from `s` to `t` (60_exceptions.md R456). -/
def Happens (s t : State) : Event → Prop
  | .err => ∃ c, Records c s t
  | .applyDone => nextTurn s = some (.agent .seqCompute) ∧ s.seq = .computing
  | .keyOn => s.outputState = .silent ∧ t.outputState = .transmitting
  | .keyOff => s.outputState = .transmitting ∧ t.outputState = .silent

/-- A host operation keeps INTSTAT, clears the bits written as 1, or records an error. -/
theorem hostEffect_intstat {i : Instr} {s t : State} (h : HostEffect s i t) :
    t.intstat = s.intstat ∨
      (∃ v, i = .wrIntstat v ∧ t.intstat = s.intstat &&& ~~~(store 4 v)) ∨
      ∃ c, Records c s t := by
  cases h with
  | clearsIntstat v => exact .inr (.inl ⟨v, rfl, rfl⟩)
  | rejects _ c => exact .inr (.inr ⟨c, rfl, rfl, rfl, rfl⟩)
  | applies =>
    obtain ⟨-, h⟩ | ⟨-, -, h⟩ | ⟨-, -, h⟩ := applyStart_cases s <;> simp [h]
  | _ => exact .inl rfl

/-- The FSM's choice latches the event of the edge it makes. -/
theorem chooseBuffer_intstat (s : State) :
    (chooseBuffer s).intstat = s.intstat ∨
      ((chooseBuffer s).intstat = s.intstat ||| Event.keyOn.mask ∧
        s.outputState = .silent ∧ (chooseBuffer s).outputState = .transmitting) ∨
      ((chooseBuffer s).intstat = s.intstat ||| Event.keyOff.mask ∧
        s.outputState = .transmitting ∧ (chooseBuffer s).outputState = .silent) := by
  obtain ⟨-, -, h⟩ | ⟨-, hst, h⟩ | ⟨-, -, h⟩ | ⟨-, hst, h⟩ := chooseBuffer_cases s <;> rw [h]
  · exact .inl rfl
  · exact .inr (.inl ⟨rfl, hst, rfl⟩)
  · exact .inl rfl
  · exact .inr (.inr ⟨rfl, hst, rfl⟩)

/-- An agent's step keeps INTSTAT or latches the one event that happens in it. -/
theorem agentEffect_intstat {a : AgentStep} {s t : State} {rest : List Turn}
    (hturn : nextTurn s = some (.agent a)) (h : AgentEffect (withInput rest s) a t) :
    t.intstat = s.intstat ∨ ∃ e, t.intstat = s.intstat ||| e.mask ∧ Happens s t e := by
  cases h with
  | timesOut => exact .inr ⟨.err, rfl, .abortTimeout, rfl, rfl, rfl, rfl⟩
  | computesDivider computing | computesBuffers computing =>
    exact .inr ⟨.applyDone, rfl, hturn, computing⟩
  | choosesBuffer =>
    obtain hkeep | ⟨hset, hedge⟩ | ⟨hset, hedge⟩ :=
      chooseBuffer_intstat { withInput rest s with irqPend := false }
    · exact .inl hkeep
    · exact .inr ⟨.keyOn, hset, hedge⟩
    · exact .inr ⟨.keyOff, hset, hedge⟩
  | emits => exact .inl (advance_intstat _)
  | _ => exact .inl rfl

/-- A step keeps INTSTAT, clears all of it (reset) or the bits the host writes as 1, or latches the
one event that happens in it. -/
theorem step_intstat {s t : State} (h : step s = .next t) :
    t.intstat = s.intstat ∨
      (nextTurn s = some .reset ∧ t.intstat = 0#4) ∨
      (∃ tw v, nextTurn s = some (.host tw) ∧ decodeTw tw = .wrIntstat v ∧
        t.intstat = s.intstat &&& ~~~(store 4 v)) ∨
      ∃ e, t.intstat = s.intstat ||| e.mask ∧ Happens s t e := by
  obtain rfl | ⟨tw, rest, hturn, he⟩ | ⟨a, rest, hturn, he⟩ | ⟨hturn, rest, rfl⟩ := step_effect h
  · exact .inl rfl
  · obtain hkeep | ⟨v, hi, hclear⟩ | ⟨c, hrec⟩ := hostEffect_intstat he
    · exact .inl hkeep
    · exact .inr (.inr (.inl ⟨tw, v, hturn, hi, hclear⟩))
    · have ⟨_, _, _, hset⟩ := hrec
      exact .inr (.inr (.inr ⟨.err, hset, c, hrec⟩))
  · obtain hkeep | hevent := agentEffect_intstat hturn he
    · exact .inl hkeep
    · exact .inr (.inr (.inr hevent))
  · exact .inr (.inl ⟨hturn, rfl⟩)

/-- A bit that rises is the bit of the event that happens in the step, which latches no other. -/
theorem step_intstat_rises {s t : State} (h : step s = .next t) {j : Nat} (hj : j < 4)
    (hs : s.intstat.getLsbD j = false) (ht : t.intstat.getLsbD j = true) :
    ∃ e, j = e.bit ∧ t.intstat = s.intstat ||| e.mask ∧ Happens s t e := by
  obtain hkeep | ⟨-, hclear⟩ | ⟨-, v, -, -, hclear⟩ | ⟨e, hset, hevent⟩ := step_intstat h
  · simp [hkeep, hs] at ht
  · simp [hclear] at ht
  · simp [hclear, hs] at ht
  · refine ⟨e, ?_, hset, hevent⟩
    simpa [hset, hs, e.getLsbD_mask hj] using ht

theorem step_intstat_falls {s t : State} (h : step s = .next t) {j : Nat} (hj : j < 4)
    (hs : s.intstat.getLsbD j = true) (ht : t.intstat.getLsbD j = false) :
    nextTurn s = some .reset ∨
      ∃ tw v, nextTurn s = some (.host tw) ∧ decodeTw tw = .wrIntstat v ∧
        v.getLsbD j = true := by
  obtain hkeep | ⟨hturn, -⟩ | ⟨tw, v, hturn, hi, hclear⟩ | ⟨e, hset, -⟩ := step_intstat h
  · simp [hkeep, hs] at ht
  · exact .inl hturn
  · exact .inr ⟨tw, v, hturn, hi, by simpa [hclear, hs, store, hj] using ht⟩
  · simp [hset, hs] at ht

/-- An event whose bit rises happens in the step. -/
theorem step_happens_of_rises {s t : State} (h : step s = .next t) {e : Event}
    (hs : s.intstat.getLsbD e.bit = false) (ht : t.intstat.getLsbD e.bit = true) :
    Happens s t e := by
  obtain ⟨e', hbit, -, hevent⟩ := step_intstat_rises h e.bit_lt hs ht
  rwa [Event.bit_injective hbit]

/-- No step raises two bits. -/
theorem step_intstat_rises_once {s t : State} (h : step s = .next t) {j k : Nat} (hj : j < 4)
    (hk : k < 4) (hsj : s.intstat.getLsbD j = false) (htj : t.intstat.getLsbD j = true)
    (hsk : s.intstat.getLsbD k = false) (htk : t.intstat.getLsbD k = true) : j = k := by
  obtain ⟨e, hbit, hset, -⟩ := step_intstat_rises h hj hsj htj
  have hbit' : k = e.bit := by simpa [hset, hsk, e.getLsbD_mask hk] using htk
  rw [hbit, hbit']

/-- Settles O23, bit by bit. -/
theorem intstatBitsFollowTheirEvents : Obligations.IntstatBitsFollowTheirEvents := fun _ _ h =>
  ⟨fun _ hj => step_intstat_falls h hj, step_happens_of_rises (e := .err) h,
    step_happens_of_rises (e := .applyDone) h, step_happens_of_rises (e := .keyOn) h,
    step_happens_of_rises (e := .keyOff) h, fun _ _ => step_intstat_rises_once h⟩

end Sys2Proof.Machine
end

section
/-! PROOFS. Who writes the buffers (20_memory.md R90, R92): no host operation, of the agents the
compute step only, and a reset. A host turn runs the operation its word decodes to (R85). -/

namespace Sys2Proof.Machine

/-! ### The transaction a step runs -/

theorem step_of_host_turn {s : State} {tw : TransWord} {rest : List Turn}
    (h : s.input = .host tw :: rest) : step s = exec (decodeTw tw) (withInput rest s) := by
  simp [step, h]

theorem fetchedWord_of_lt {nbits w : Nat} (h : w < 2 ^ nbits) :
    fetchedWord nbits w = BitVec.ofNat 54 w := by
  rw [fetchedWord, Nat.mod_eq_of_lt h]

/-- Settles O8: the placed word is the next turn, and using it up gives back the state. -/
theorem stepRunsTheDecodedTransaction : Obligations.StepRunsTheDecodedTransaction := by
  refine ⟨?_, fun s nbits w _ hw => ?_⟩
  · rintro s tw rest _ hin rfl
    exact step_of_host_turn hin
  · calc step (s.withFetchWord nbits w) = exec (decodeTw (fetchedWord nbits w)) s :=
          step_of_host_turn rfl
      _ = exec (decodeTw (BitVec.ofNat 54 w)) s := by rw [fetchedWord_of_lt hw]

/-! ### What a host operation leaves alone -/

/-- What the host operations leave alone: the buffers, the output side, what a computation leaves
and the schedule. -/
structure SameOutputSide (s t : State) : Prop where
  mem : t.mem = s.mem
  outputState : t.outputState = s.outputState
  ind : t.ind = s.ind
  engActive : t.engActive = s.engActive
  engBuf : t.engBuf = s.engBuf
  engWord : t.engWord = s.engWord
  engSlot : t.engSlot = s.engSlot
  irqPend : t.irqPend = s.irqPend
  trace : t.trace = s.trace
  fatal : t.fatal = s.fatal
  outsel : t.outsel = s.outsel
  filled : t.filled = s.filled
  nwords : t.nwords = s.nwords
  nperiods : t.nperiods = s.nperiods
  fexact : t.fexact = s.fexact
  clkdiv : t.clkdiv = s.clkdiv
  approxIter : t.approxIter = s.approxIter
  input : t.input = s.input

/-- APPLY touches SEQ, ARMED, ABORT_REQ and POLL only (44_controller.md R342 to R345). -/
theorem applyStart_frame (s : State) :
    applyStart s =
      { s with
        seq := (applyStart s).seq
        armed := (applyStart s).armed
        abortReq := (applyStart s).abortReq
        poll := (applyStart s).poll } := by
  obtain ⟨-, h⟩ | ⟨-, -, h⟩ | ⟨-, -, h⟩ := applyStart_cases s <;> rw [h]

theorem hostEffect_sameOutputSide {i : Instr} {s t : State} (h : HostEffect s i t) :
    SameOutputSide s t := by
  cases h with
  | applies => rw [applyStart_frame]; constructor <;> rfl
  | _ => constructor <;> rfl

/-- Settles O19: every effect of a host operation leaves the output side alone. -/
theorem hostTransactionsLeaveOutputSideAlone :
    Obligations.HostTransactionsLeaveOutputSideAlone := by
  intro i s t h
  have same := hostEffect_sameOutputSide (exec_effect h)
  exact ⟨fun a => by rw [same.mem],
    ⟨same.outputState, same.ind, same.engActive, same.engBuf, same.engWord, same.engSlot,
      same.irqPend, same.trace, same.fatal⟩,
    same.outsel, same.filled, same.nwords, same.nperiods, same.fexact, same.clkdiv,
    same.approxIter, same.input⟩

/-! ### What a step does to the buffer memory -/

@[simp] theorem advance_mem (s : State) : (advance s).mem = s.mem := by
  rw [advance_frame]

@[simp] theorem chooseBuffer_mem (s : State) : (chooseBuffer s).mem = s.mem := by
  rw [chooseBuffer_frame]

/-- Of the agents' steps only the compute step in modes 1 to 5 writes the buffers. -/
theorem agentEffect_mem {a : AgentStep} {s t : State} (h : AgentEffect s a t) :
    t.mem = s.mem ∨
      (a = .seqCompute ∧ s.seq = .computing ∧ s.mode ≠ 0#3 ∧
        t.mem = publish (filledBuffers s) s.mem) := by
  cases h with
  | computesBuffers computing streaming => exact .inr ⟨rfl, computing, streaming, rfl⟩
  | emits => exact .inl (advance_mem _)
  | choosesBuffer => exact .inl (chooseBuffer_mem _)
  | _ => exact .inl rfl

/-- A step leaves the buffers alone, publishes a fill, or resets them. -/
theorem step_mem {s t : State} (h : step s = .next t) :
    t.mem = s.mem ∨
      (nextTurn s = some (.agent .seqCompute) ∧ s.seq = .computing ∧ s.mode ≠ 0#3 ∧
        t.mem = publish (filledBuffers s) s.mem) ∨
      (nextTurn s = some .reset ∧ t.mem = State.reset.mem) := by
  obtain rfl | ⟨tw, rest, -, he⟩ | ⟨a, rest, hturn, he⟩ | ⟨hturn, rest, rfl⟩ := step_effect h
  · exact .inl rfl
  · exact .inl (hostEffect_sameOutputSide he).mem
  · obtain hkeep | ⟨rfl, hwritten⟩ := agentEffect_mem he
    · exact .inl hkeep
    · exact .inr (.inl ⟨hturn, hwritten⟩)
  · exact .inr (.inr ⟨hturn, rfl⟩)

/-- Settles O15: a fill is published by byte writes, which keep the canonical form. -/
theorem stepKeepsMemoryCanonical : Obligations.StepKeepsMemoryCanonical := by
  intro s t hwf h
  obtain hkeep | ⟨-, -, -, hpublish⟩ | ⟨-, hreset⟩ := step_mem h
  · rw [hkeep]; exact hwf
  · rw [hpublish]; exact publish_wf _ hwf
  · rw [hreset]; exact reset_mem_wf

/-- Settles O20: in every other case of `step_mem` the memory is the same. -/
theorem onlyComputeStepWritesBuffers : Obligations.OnlyComputeStepWritesBuffers := by
  rintro s t h ⟨a, hchanged⟩
  obtain hkeep | ⟨hturn, computing, streaming, -⟩ | ⟨hturn, -⟩ := step_mem h
  · exact absurd (by rw [hkeep]) hchanged
  · exact .inl ⟨hturn, computing, streaming⟩
  · exact .inr hturn

end Sys2Proof.Machine
end

section
/-! PROOFS. Decoding and encoding (30_encoding.md R110 to R119). An aligned word access is a buffer
row, a register row or outside the map, and each of the three fixes the operation; the round trips
and the order of R112 are read off that case split. -/

namespace Sys2Proof

open Machine Laws.StepOneOfDecoding

/-! ### Steps 1 and 2 of R112 -/

theorem decodeTw_of_aligned {tw : TransWord} (size : twSize tw = sizeWord)
    (aligned : addrLow (twAddr tw) = 0#2) :
    decodeTw tw = decodeAligned (twWe tw) (twAddr tw) (twData tw) :=
  if_pos ⟨size, aligned⟩

theorem decodeTw_of_misaligned {tw : TransWord}
    (h : ¬(twSize tw = sizeWord ∧ addrLow (twAddr tw) = 0#2)) :
    decodeTw tw = .misaligned (twWe tw) (twSize tw) (twAddr tw) :=
  if_neg h

theorem decodeTw_twOf_aligned {we : Bool} {addr : BusAddr} {wdata : Word}
    (aligned : addrLow addr = 0#2) :
    decodeTw (twOf we sizeWord addr wdata) = decodeAligned we addr wdata := by
  obtain ⟨size, low⟩ := aligned_word we wdata aligned
  rw [decodeTw_of_aligned size low, twWe_twOf, twAddr_twOf, twData_twOf]

theorem decodeTw_twOf_misaligned {we : Bool} {size : BitVec 2} {addr : BusAddr} {wdata : Word}
    (h : ¬(size = sizeWord ∧ addrLow addr = 0#2)) :
    decodeTw (twOf we size addr wdata) = .misaligned we size addr := by
  rw [decodeTw_of_misaligned (by rwa [twSize_twOf, twAddr_twOf]), twWe_twOf, twSize_twOf,
    twAddr_twOf]

/-! ### The register rows (R113, R115) -/

/-- A column of the register table, its reads or its writes of `wdata`, with the CMD row. -/
def registerColumn (we : Bool) (wdata : Word) : List (BusAddr × Instr) :=
  (0x0000C#19, if we then decodeCommand wdata else .rdCmd) ::
    registerTable.map fun row => (row.1, if we then row.2.2 wdata else row.2.1)

/-- The offsets of the registers. -/
def registerOffsets : List BusAddr := 0x0000C#19 :: registerTable.map Prod.fst

theorem mem_registerColumn_of_row {row : BusAddr × Instr × (Word → Instr)}
    (h : row ∈ registerTable) (we : Bool) (wdata : Word) :
    (row.1, if we then row.2.2 wdata else row.2.1) ∈ registerColumn we wdata :=
  List.mem_cons_of_mem _ (List.mem_map.2 ⟨row, h, rfl⟩)

theorem map_fst_registerColumn (we : Bool) (wdata : Word) :
    (registerColumn we wdata).map Prod.fst = registerOffsets := rfl

theorem mem_registerOffsets_of_mem {we : Bool} {addr : BusAddr} {wdata : Word} {i : Instr}
    (h : (addr, i) ∈ registerColumn we wdata) : addr ∈ registerOffsets := by
  rw [← map_fst_registerColumn we wdata]
  exact List.mem_map_of_mem h

theorem exists_mem_registerColumn {addr : BusAddr} (h : addr ∈ registerOffsets) (we : Bool)
    (wdata : Word) : ∃ i, (addr, i) ∈ registerColumn we wdata := by
  rw [← map_fst_registerColumn we wdata] at h
  simpa using h

theorem mem_registerColumn_of_toNat {we : Bool} {addr : BusAddr} {wdata : Word} {i : Instr}
    {n : Nat} (hn : addr.toNat = n) (h : (BitVec.ofNat 19 n, i) ∈ registerColumn we wdata) :
    (addr, i) ∈ registerColumn we wdata := by
  subst hn; simpa using h

theorem decodeRead_eq_some_iff {addr : BusAddr} {i : Instr} (wdata : Word) :
    decodeRead addr = some i ↔ (addr, i) ∈ registerColumn false wdata := by
  constructor
  · intro h
    unfold decodeRead at h
    split at h <;> cases h <;>
      exact mem_registerColumn_of_toNat ‹_› (by simp [registerColumn, registerTable])
  · have every_row : ∀ e ∈ registerColumn false wdata, decodeRead e.1 = some e.2 := by
      simp [registerColumn, registerTable, decodeRead]
    exact every_row (addr, i)

theorem decodeWrite_eq_some_iff {addr : BusAddr} {wdata : Word} {i : Instr} :
    decodeWrite addr wdata = some i ↔ (addr, i) ∈ registerColumn true wdata := by
  constructor
  · intro h
    unfold decodeWrite at h
    split at h <;> cases h <;>
      exact mem_registerColumn_of_toNat ‹_› (by simp [registerColumn, registerTable])
  · have every_row : ∀ e ∈ registerColumn true wdata, decodeWrite e.1 wdata = some e.2 := by
      simp [registerColumn, registerTable, decodeWrite]
    exact every_row (addr, i)

/-- The lookup `decodeAligned` makes in the register table. -/
def decodeRegister (we : Bool) (addr : BusAddr) (wdata : Word) : Option Instr :=
  if we then decodeWrite addr wdata else decodeRead addr

theorem decodeRegister_eq_some_iff {we : Bool} {addr : BusAddr} {wdata : Word} {i : Instr} :
    decodeRegister we addr wdata = some i ↔ (addr, i) ∈ registerColumn we wdata := by
  cases we
  · exact decodeRead_eq_some_iff wdata
  · exact decodeWrite_eq_some_iff

theorem decodeCommand_of_reserved {wdata : Word} (h1 : wdata ≠ 1#32) (h2 : wdata ≠ 2#32)
    (h3 : wdata ≠ 3#32) : decodeCommand wdata = .cmdReserved wdata := by
  rw [decodeCommand, if_neg h1, if_neg h2, if_neg h3]

/-! ### The buffer rows (R111, R114) -/

/-- The address of word `w` in the window of buffer `b`. -/
def windowAddr (b : BitVec 2) (w : BitVec 14) : BusAddr := (b.setWidth 3 + 1#3) ++ w ++ 0#2

/-- The access to word `w` of buffer `b`. -/
def bufferOp (we : Bool) (b : BitVec 2) (w : BitVec 14) : Instr :=
  if we then bufferWriteOp b w else bufferReadOp b w

/-- The address lies in the window of a buffer. -/
def InWindow (addr : BusAddr) : Prop := ∃ b : BitVec 2, addrBank addr = b.setWidth 3 + 1#3

theorem buffer_cases (b : BitVec 2) : b = 0#2 ∨ b = 1#2 ∨ b = 2#2 ∨ b = 3#2 := by
  revert b; decide

theorem addrBank_append (bank : BitVec 3) (w : BitVec 14) :
    addrBank (bank ++ w ++ 0#2) = bank := by
  apply BitVec.eq_of_getLsbD_eq
  intro i hi
  simp only [addrBank, BitVec.getLsbD_extractLsb', BitVec.getLsbD_append]
  simp [hi, show ¬ 16 + i < 2 by omega, show ¬ 16 + i - 2 < 14 by omega,
    show 16 + i - 2 - 14 = i by omega]

theorem addrIndex_append (bank : BitVec 3) (w : BitVec 14) :
    addrIndex (bank ++ w ++ 0#2) = w := by
  apply BitVec.eq_of_getLsbD_eq
  intro i hi
  simp only [addrIndex, BitVec.getLsbD_extractLsb', BitVec.getLsbD_append]
  simp [hi, show 1 < 2 + i by omega]

theorem append_addrLow (addr : BusAddr) :
    addrBank addr ++ addrIndex addr ++ addrLow addr = addr := by
  apply BitVec.eq_of_getLsbD_eq
  intro i hi
  simp only [addrBank, addrIndex, addrLow, BitVec.getLsbD_append, BitVec.getLsbD_extractLsb']
  by_cases h2 : i < 2
  · simp [h2]
  · by_cases h16 : i - 2 < 14
    · simp [h2, h16, show 2 + (i - 2) = i by omega]
    · simp [h2, h16, show 16 + (i - 2 - 14) = i by omega, show i - 2 - 14 < 3 by omega]

theorem windowAddr_addrIndex {addr : BusAddr} {b : BitVec 2} (aligned : addrLow addr = 0#2)
    (bank : addrBank addr = b.setWidth 3 + 1#3) : windowAddr b (addrIndex addr) = addr := by
  rw [windowAddr, ← bank, ← aligned, append_addrLow]

theorem decodeBuffer_eq_some_iff {we : Bool} {addr : BusAddr} {i : Instr} :
    decodeBuffer we addr = some i ↔
      ∃ b : BitVec 2, addrBank addr = b.setWidth 3 + 1#3 ∧ i = bufferOp we b (addrIndex addr) := by
  constructor
  · intro h
    unfold decodeBuffer at h
    split at h
    case h_1 bank => exact ⟨0#2, BitVec.eq_of_toNat_eq bank, (Option.some.inj h).symm⟩
    case h_2 bank => exact ⟨1#2, BitVec.eq_of_toNat_eq bank, (Option.some.inj h).symm⟩
    case h_3 bank => exact ⟨2#2, BitVec.eq_of_toNat_eq bank, (Option.some.inj h).symm⟩
    case h_4 bank => exact ⟨3#2, BitVec.eq_of_toNat_eq bank, (Option.some.inj h).symm⟩
    case h_5 => cases h
  · rintro ⟨b, bank, rfl⟩
    rw [decodeBuffer, bank]
    obtain rfl | rfl | rfl | rfl := buffer_cases b <;> rfl

theorem decodeBuffer_eq_none {we : Bool} {addr : BusAddr} (h : ¬InWindow addr) :
    decodeBuffer we addr = none := by
  rw [Option.eq_none_iff_forall_ne_some]
  intro i hi
  obtain ⟨b, bank, -⟩ := decodeBuffer_eq_some_iff.1 hi
  exact h ⟨b, bank⟩

/-! ### The map (20_memory.md R86) -/

theorem inWindow_iff (addr : BusAddr) :
    InWindow addr ↔ 0x10000 ≤ addr.toNat ∧ addr.toNat < 0x50000 := by
  have bank_range : ∀ bank : BitVec 3,
      (∃ b : BitVec 2, bank = b.setWidth 3 + 1#3) ↔ 1 ≤ bank.toNat ∧ bank.toNat ≤ 4 := by decide
  have bank_value : (addrBank addr).toNat = addr.toNat / 65536 := by
    have := addr.isLt
    simp only [addrBank, BitVec.extractLsb'_toNat, Nat.shiftRight_eq_div_pow]
    omega
  rw [InWindow, bank_range, bank_value]
  omega

theorem mem_registerOffsets_iff {addr : BusAddr} (aligned : addrLow addr = 0#2) :
    addr ∈ registerOffsets ↔
      addr.toNat < 0x80 ∧ [0x1C, 0x54, 0x58, 0x5C].contains addr.toNat = false := by
  have every_offset : ∀ offset ∈ registerOffsets,
      offset.toNat < 0x80 ∧ [0x1C, 0x54, 0x58, 0x5C].contains offset.toNat = false := by
    simp [registerOffsets, registerTable]
  have every_low_address : ∀ n < 0x80, [0x1C, 0x54, 0x58, 0x5C].contains n = false →
      addrLow (BitVec.ofNat 19 n) = 0#2 → BitVec.ofNat 19 n ∈ registerOffsets := by
    simp only [registerOffsets, registerTable, List.map]
    decide
  refine ⟨every_offset addr, fun ⟨low, listed⟩ => ?_⟩
  simpa [aligned] using every_low_address addr.toNat low listed

theorem not_inWindow_of_mem {addr : BusAddr} (h : addr ∈ registerOffsets) : ¬InWindow addr := by
  have every_offset : ∀ offset ∈ registerOffsets, offset.toNat < 0x10000 := by
    simp [registerOffsets, registerTable]
  have := every_offset addr h
  rw [inWindow_iff]
  omega

theorem addrLow_of_mem {addr : BusAddr} (h : addr ∈ registerOffsets) : addrLow addr = 0#2 := by
  revert addr
  simp [registerOffsets, registerTable, addrLow]

/-- The mapped words are the registers and the buffer windows. -/
theorem mappedAddr_iff {addr : BusAddr} (aligned : addrLow addr = 0#2) :
    mappedAddr addr = true ↔ addr ∈ registerOffsets ∨ InWindow addr := by
  rw [mem_registerOffsets_iff aligned, inWindow_iff]
  simp only [mappedAddr, Bool.or_eq_true, Bool.and_eq_true, decide_eq_true_eq, Bool.not_eq_true']

/-! ### Aligned word accesses -/

/-- The operation `i` of an aligned word access, by the part of the map its address lies in. -/
inductive AlignedOp (we : Bool) (addr : BusAddr) (wdata : Word) : Instr → Prop
  | buffer (b : BitVec 2) (bank : addrBank addr = b.setWidth 3 + 1#3) :
      AlignedOp we addr wdata (bufferOp we b (addrIndex addr))
  | register {i : Instr} (row : (addr, i) ∈ registerColumn we wdata) : AlignedOp we addr wdata i
  | unmapped (outside : mappedAddr addr = false) : AlignedOp we addr wdata (.unmapped we addr)

theorem decodeAligned_eq (we : Bool) (addr : BusAddr) (wdata : Word) :
    decodeAligned we addr wdata =
      ((decodeBuffer we addr).or (decodeRegister we addr wdata)).getD (.unmapped we addr) := by
  unfold decodeAligned decodeRegister
  cases decodeBuffer we addr
  · cases (if we then decodeWrite addr wdata else decodeRead addr) <;> rfl
  · rfl

theorem alignedOp_decodeAligned {we : Bool} {addr : BusAddr} {wdata : Word}
    (aligned : addrLow addr = 0#2) : AlignedOp we addr wdata (decodeAligned we addr wdata) := by
  rw [decodeAligned_eq]
  cases hb : decodeBuffer we addr with
  | some i =>
    obtain ⟨b, bank, rfl⟩ := decodeBuffer_eq_some_iff.1 hb
    exact .buffer b bank
  | none =>
    cases hr : decodeRegister we addr wdata with
    | some i => exact .register (decodeRegister_eq_some_iff.1 hr)
    | none =>
      refine .unmapped (Bool.eq_false_iff.2 fun mapped => ?_)
      obtain listed | ⟨b, bank⟩ := (mappedAddr_iff aligned).1 mapped
      · obtain ⟨i, row⟩ := exists_mem_registerColumn listed we wdata
        simp [decodeRegister_eq_some_iff.2 row] at hr
      · simp [decodeBuffer_eq_some_iff.2 ⟨b, bank, rfl⟩] at hb

theorem decodeAligned_of_alignedOp {we : Bool} {addr : BusAddr} {wdata : Word} {i : Instr}
    (aligned : addrLow addr = 0#2) (h : AlignedOp we addr wdata i) :
    decodeAligned we addr wdata = i := by
  rw [decodeAligned_eq]
  cases h with
  | buffer b bank => rw [decodeBuffer_eq_some_iff.2 ⟨b, bank, rfl⟩]; rfl
  | register row =>
    rw [decodeBuffer_eq_none (not_inWindow_of_mem (mem_registerOffsets_of_mem row)),
      decodeRegister_eq_some_iff.2 row]
    rfl
  | unmapped outside =>
    have nowhere : ¬(addr ∈ registerOffsets ∨ InWindow addr) := by
      simp [← mappedAddr_iff aligned, outside]
    have no_row : decodeRegister we addr wdata = none := by
      rw [Option.eq_none_iff_forall_ne_some]
      exact fun i hi =>
        nowhere (.inl (mem_registerOffsets_of_mem (decodeRegister_eq_some_iff.1 hi)))
    rw [decodeBuffer_eq_none fun h => nowhere (.inr h), no_row]
    rfl

/-- The word of a register row decodes to the row's operation. -/
theorem decodeTw_register {we : Bool} {addr : BusAddr} {wdata : Word} {i : Instr}
    (row : (addr, i) ∈ registerColumn we wdata) : decodeTw (twOf we sizeWord addr wdata) = i := by
  have aligned := addrLow_of_mem (mem_registerOffsets_of_mem row)
  rw [decodeTw_twOf_aligned aligned, decodeAligned_of_alignedOp aligned (.register row)]

/-- The word of a buffer access decodes to it. -/
theorem decodeTw_windowAddr (we : Bool) (b : BitVec 2) (w : BitVec 14) (wdata : Word) :
    decodeTw (twOf we sizeWord (windowAddr b w) wdata) = bufferOp we b w := by
  have aligned : addrLow (windowAddr b w) = 0#2 := addrLow_buffer _ w
  have row : AlignedOp we (windowAddr b w) wdata (bufferOp we b w) := by
    have h := AlignedOp.buffer (we := we) (wdata := wdata) b (addrBank_append _ w)
    rwa [addrIndex_append] at h
  rw [decodeTw_twOf_aligned aligned, decodeAligned_of_alignedOp aligned row]

/-- The word of an access outside the map decodes to UNMAPPED. -/
theorem decodeTw_unmapped {we : Bool} {addr : BusAddr} {wdata : Word} (aligned : addrLow addr = 0#2)
    (outside : mappedAddr addr = false) :
    decodeTw (twOf we sizeWord addr wdata) = .unmapped we addr := by
  rw [decodeTw_twOf_aligned aligned, decodeAligned_of_alignedOp aligned (.unmapped outside)]

/-! ### From operations to words and back -/

/-- Settles O1: each constructor's word stands in the part of the map its operation belongs to. -/
theorem encodedOperationsDecodeBack : Obligations.EncodedOperationsDecodeBack := by
  intro i hwf
  cases i with
  | misaligned we size addr =>
    simp only [Instr.wf, Bool.or_eq_true, bne_iff_ne, Bool.not_eq_true'] at hwf
    refine decodeTw_twOf_misaligned fun ⟨hsize, hlow⟩ => ?_
    simp [hsize, sizeWord, (addrLow_eq_zero_iff addr).1 hlow] at hwf
  | unmapped we addr =>
    simp only [Instr.wf, Bool.and_eq_true, Bool.not_eq_true'] at hwf
    obtain ⟨aligned, outside⟩ := hwf
    exact decodeTw_unmapped ((addrLow_eq_zero_iff addr).2 aligned) outside
  | cmdReserved wdata =>
    simp only [Instr.wf, Bool.and_eq_true, bne_iff_ne] at hwf
    obtain ⟨⟨h1, h2⟩, h3⟩ := hwf
    refine decodeTw_register ?_
    simp [registerColumn, decodeCommand_of_reserved h1 h2 h3]
  | rdBufSilent w => exact decodeTw_windowAddr false 0#2 w 0#32
  | rdBufSteady w => exact decodeTw_windowAddr false 1#2 w 0#32
  | rdBufRampup w => exact decodeTw_windowAddr false 2#2 w 0#32
  | rdBufRampdown w => exact decodeTw_windowAddr false 3#2 w 0#32
  | wrRoBufSilent w => exact decodeTw_windowAddr true 0#2 w 0#32
  | wrRoBufSteady w => exact decodeTw_windowAddr true 1#2 w 0#32
  | wrRoBufRampup w => exact decodeTw_windowAddr true 2#2 w 0#32
  | wrRoBufRampdown w => exact decodeTw_windowAddr true 3#2 w 0#32
  | _ => exact decodeTw_register (by simp [registerColumn, registerTable, decodeCommand])

/-- `i` is well-formed, and its own word has these fields, an ignored WDATA being 0. -/
structure HasFields (we : Bool) (size : BitVec 2) (addr : BusAddr) (wdata : Word) (i : Instr) :
    Prop where
  wf : i.wf = true
  word : encode i = twOf we size addr (if usesData i then wdata else 0#32)

theorem hasFields_decodeCommand (wdata : Word) :
    HasFields true sizeWord 0x0000C#19 wdata (decodeCommand wdata) := by
  unfold decodeCommand
  split_ifs with h1 h2 h3
  · subst h1; exact ⟨rfl, rfl⟩
  · subst h2; exact ⟨rfl, rfl⟩
  · subst h3; exact ⟨rfl, rfl⟩
  · exact ⟨by simp [Instr.wf, h1, h2, h3], rfl⟩

theorem hasFields_of_mem_registerTable {row : BusAddr × Instr × (Word → Instr)}
    (h : row ∈ registerTable) (wdata : Word) :
    HasFields false sizeWord row.1 wdata row.2.1 ∧
      HasFields true sizeWord row.1 wdata (row.2.2 wdata) := by
  revert row
  simp only [registerTable, List.forall_mem_cons]
  repeat' constructor
  exact List.forall_mem_nil _

theorem hasFields_of_mem {we : Bool} {addr : BusAddr} {wdata : Word} {i : Instr}
    (h : (addr, i) ∈ registerColumn we wdata) : HasFields we sizeWord addr wdata i := by
  obtain hcmd | hrow := List.mem_cons.1 h
  · obtain ⟨rfl, rfl⟩ := Prod.mk.inj hcmd
    cases we
    · exact ⟨rfl, rfl⟩
    · exact hasFields_decodeCommand wdata
  · obtain ⟨row, hmem, heq⟩ := List.mem_map.1 hrow
    obtain ⟨rfl, rfl⟩ := Prod.mk.inj heq
    cases we
    · exact (hasFields_of_mem_registerTable hmem wdata).1
    · exact (hasFields_of_mem_registerTable hmem wdata).2

theorem hasFields_bufferOp (we : Bool) (b : BitVec 2) (w : BitVec 14) (wdata : Word) :
    HasFields we sizeWord (windowAddr b w) wdata (bufferOp we b w) := by
  obtain rfl | rfl | rfl | rfl := buffer_cases b <;> cases we <;> exact ⟨rfl, rfl⟩

theorem hasFields_of_alignedOp {we : Bool} {addr : BusAddr} {wdata : Word} {i : Instr}
    (aligned : addrLow addr = 0#2) (h : AlignedOp we addr wdata i) :
    HasFields we sizeWord addr wdata i := by
  cases h with
  | buffer b bank =>
    have h := hasFields_bufferOp we b (addrIndex addr) wdata
    rwa [windowAddr_addrIndex aligned bank] at h
  | register row => exact hasFields_of_mem row
  | unmapped outside =>
    exact ⟨by simp [Instr.wf, (addrLow_eq_zero_iff addr).1 aligned, outside], rfl⟩

theorem hasFields_misaligned {we : Bool} {size : BitVec 2} {addr : BusAddr} (wdata : Word)
    (h : ¬(size = sizeWord ∧ addrLow addr = 0#2)) :
    HasFields we size addr wdata (.misaligned we size addr) := by
  refine ⟨?_, rfl⟩
  rw [addrLow_eq_zero_iff, sizeWord, not_and, Bool.not_eq_true] at h
  simpa [Instr.wf, ← imp_iff_not_or] using h

/-- The operation of a word has the word's fields. -/
theorem hasFields_decodeTw (tw : TransWord) :
    HasFields (twWe tw) (twSize tw) (twAddr tw) (twData tw) (decodeTw tw) := by
  by_cases h : twSize tw = sizeWord ∧ addrLow (twAddr tw) = 0#2
  · obtain ⟨size, aligned⟩ := h
    rw [decodeTw_of_aligned size aligned, size]
    exact hasFields_of_alignedOp aligned (alignedOp_decodeAligned aligned)
  · rw [decodeTw_of_misaligned h]
    exact hasFields_misaligned _ h

/-- Settles O2: the fields of the encoding are read off `hasFields_decodeTw`. -/
theorem everyWordDecodesToAWellFormedOperation :
    Obligations.EveryWordDecodesToAWellFormedOperation := by
  intro tw
  obtain ⟨wf, word⟩ := hasFields_decodeTw tw
  rw [word, twWe_twOf, twSize_twOf, twAddr_twOf, twData_twOf]
  exact ⟨wf, rfl, rfl, rfl, fun used => if_pos used⟩

/-- An operation that is UNMAPPED names an address outside the map, the word's own. -/
theorem mappedAddr_of_decodeTw_unmapped {tw : TransWord} {we : Bool} {addr : BusAddr}
    (h : decodeTw tw = .unmapped we addr) : mappedAddr (twAddr tw) = false := by
  obtain ⟨wf, word⟩ := hasFields_decodeTw tw
  rw [h] at wf word
  have same_addr : addr = twAddr tw := by
    simpa only [encode, twAddr_twOf] using congrArg twAddr word
  simp only [Instr.wf, Bool.and_eq_true, Bool.not_eq_true'] at wf
  rw [← same_addr, wf.2]

/-- Settles O5: one clause for each step of R112, the last by `hasFields_decodeTw`. -/
theorem decodingFollowsTheStatedOrder : Obligations.DecodingFollowsTheStatedOrder := by
  intro tw
  refine ⟨decodeTw_of_misaligned, ?cmd, ?outside, ?inside⟩
  case cmd =>
    intro size write addr h1 h2 h3
    have aligned : addrLow (twAddr tw) = 0#2 := by rw [addr]; rfl
    rw [decodeTw_of_aligned size aligned]
    refine decodeAligned_of_alignedOp aligned (.register ?_)
    simp [registerColumn, write, addr, decodeCommand_of_reserved h1 h2 h3]
  case outside =>
    intro size aligned outside
    rw [decodeTw_of_aligned size aligned]
    exact decodeAligned_of_alignedOp aligned (.unmapped outside)
  case inside =>
    intro _ _ mapped we addr h
    simp [mappedAddr_of_decodeTw_unmapped h] at mapped

/-- Settles O3: a row of the table is a row of either column. -/
theorem registerTableRowsDecode : Obligations.RegisterTableRowsDecode := by
  refine ⟨fun row hrow wdata => ⟨?_, ?_⟩, fun wdata => ?_, ?_, ?_, ?_⟩
  · exact decodeTw_register (mem_registerColumn_of_row hrow false wdata)
  · exact decodeTw_register (mem_registerColumn_of_row hrow true wdata)
  all_goals exact decodeTw_register List.mem_cons_self

/-- Settles O4: the bank and the index of a window's address are those it is put together from. -/
theorem bufferRowsDecode : Obligations.BufferRowsDecode := fun b w wdata =>
  ⟨decodeTw_windowAddr false b w wdata, decodeTw_windowAddr true b w wdata⟩

/-- Settles O6: each word is a literal, so decoding it is a computation. -/
theorem specWordsDecode : Obligations.SpecWordsDecode := by
  unfold Obligations.SpecWordsDecode
  decide

/-! ### Bytes of a transaction word (R110, log 14) -/

theorem leValue_leBytes (n v : Nat) : leValue (leBytes n v) = v % 256 ^ n := by
  induction n generalizing v with
  | zero => simp [leBytes, leValue, Nat.mod_one]
  | succ n ih =>
    rw [leBytes, leValue, ih, pow_succ', Nat.mod_mul, BitVec.toNat_ofNat]

theorem decode_of_lt {bytes : List Byte} (h : leValue bytes < 2 ^ 54) :
    decode bytes = .ok (decodeTw (BitVec.ofNat 54 (leValue bytes))) :=
  if_pos h

theorem decode_of_le {bytes : List Byte} (h : 2 ^ 54 ≤ leValue bytes) :
    decode bytes = .error .notATransactionWord :=
  if_neg (Nat.not_lt.2 h)

/-- Settles O7: seven bytes hold every 54-bit value. -/
theorem transactionBytesDecode : Obligations.TransactionBytesDecode := by
  refine ⟨fun tw => ?_, fun _ => decode_of_le⟩
  have value : leValue (leBytes 7 tw.toNat) = tw.toNat := by
    rw [leValue_leBytes, Nat.mod_eq_of_lt (lt_of_lt_of_le tw.isLt (by norm_num))]
  rw [decode_of_lt (by rw [value]; exact tw.isLt), value, BitVec.ofNat_toNat, BitVec.setWidth_eq]

end Sys2Proof
end

section
/-! PROOFS. The turns of the schedule that are no host transaction (30_encoding.md R120,
70_reset_and_hazards.md R490; logs 2 and 3). -/

namespace Sys2Proof.Machine

theorem step_of_agent_turn {s : State} {a : AgentStep} {rest : List Turn}
    (h : s.input = .agent a :: rest) : step s = agentStep a (withInput rest s) := by
  simp [step, h]

theorem step_of_reset_turn {s : State} {rest : List Turn} (h : s.input = .reset :: rest) :
    step s = .next (withInput rest State.reset) := by
  simp [step, h, resetBlock]

theorem step_of_no_turn {s : State} (h : s.input = []) : step s = .next s := by
  simp [step, h]

/-- An agent whose step is not enabled passes (R120, log 3). -/
theorem agentStep_of_not_enabled {a : AgentStep} {s : State} (h : ¬enabled a s) :
    agentStep a s = .next s := by
  cases a with
  | engEmit =>
    have idle : s.engActive = false := by simpa [enabled] using h
    simp [agentStep, engEmit, idle]
  | engAbort =>
    have none_pending : s.abortReq = false := by simpa [enabled] using h
    simp [agentStep, engAbort, none_pending]
  | fsmStep =>
    have none_pending : s.irqPend = false := by simpa [enabled] using h
    simp [agentStep, fsmStep, none_pending]
  | seqPoll => exact congrArg _ (if_neg h)
  | seqCompute => exact congrArg _ (if_neg h)

/-- Settles O9: one clause for each turn, one for each agent that is not enabled. -/
theorem stepTakesAgentAndResetTurns : Obligations.StepTakesAgentAndResetTurns := fun _ _ =>
  ⟨fun _ => step_of_agent_turn, step_of_reset_turn, step_of_no_turn,
    fun h => agentStep_of_not_enabled (a := .engEmit) (by simp [enabled, h]),
    fun h => agentStep_of_not_enabled (a := .engAbort) (by simp [enabled, h]),
    fun h => agentStep_of_not_enabled (a := .fsmStep) (by simp [enabled, h]),
    agentStep_of_not_enabled (a := .seqPoll), agentStep_of_not_enabled (a := .seqCompute)⟩

end Sys2Proof.Machine
end

section
/-! PROOFS. The solver (41_rational_solver.md R203 to R215). Its brackets stay adjacent fractions
around the target, and its passes alternate sides, so that the denominators grow like the
Fibonacci numbers and the search always ends before its cap, at the target itself or where no
fraction under the cap lies between the brackets. -/

namespace Sys2Proof.Machine

/-! ### One pass -/

/-- The left bracket moved `n` steps towards the right one (R206). -/
def Brackets.moveLeft (n : Int) (k : Brackets) : Brackets :=
  { k with a := k.a + n * k.c, b := k.b + n * k.d, it := k.it + 1 }

/-- The right bracket moved `n` steps towards the left one (R207). -/
def Brackets.moveRight (n : Int) (k : Brackets) : Brackets :=
  { k with c := k.c + n * k.a, d := k.d + n * k.b, it := k.it + 1 }

@[simp] theorem rightDistance_moveLeft (x y n : Int) (k : Brackets) :
    rightDistance x y (k.moveLeft n) = rightDistance x y k := rfl

@[simp] theorem leftDistance_moveRight (x y n : Int) (k : Brackets) :
    leftDistance x y (k.moveRight n) = leftDistance x y k := rfl

@[simp] theorem leftDistance_moveLeft (x y n : Int) (k : Brackets) :
    leftDistance x y (k.moveLeft n) = leftDistance x y k - n * rightDistance x y k := by
  simp only [leftDistance, rightDistance, Brackets.moveLeft]
  ring

@[simp] theorem rightDistance_moveRight (x y n : Int) (k : Brackets) :
    rightDistance x y (k.moveRight n) = rightDistance x y k - n * leftDistance x y k := by
  simp only [leftDistance, rightDistance, Brackets.moveRight]
  ring

/-- The brackets are adjacent fractions with the target between them (R203). -/
structure Encloses (x y : Int) (k : Brackets) : Prop where
  adjacent : k.c * k.b - k.a * k.d = 1
  left_le : 0 ≤ leftDistance x y k
  le_right : 0 ≤ rightDistance x y k

theorem firstBrackets_encloses {x y : Int} (h0 : 0 ≤ x) (hxy : x ≤ y) :
    Encloses x y firstBrackets where
  adjacent := by decide
  left_le := by simpa [leftDistance, firstBrackets] using h0
  le_right := by simpa [rightDistance, firstBrackets] using hxy

/-- Clamp (1) of R209 never acts, and a pass that clamp (2) does not shorten brings its own
distance below the other one. -/
theorem passCount_greatest {num den qmax fixed other : Int} (hother : 1 ≤ other)
    (hden : 0 < den) (hle : den ≤ num) :
    passCount num den qmax fixed other * den ≤ num ∧
      (qmax < fixed + passCount num den qmax fixed other * other + other ∨
        num - passCount num den qmax fixed other * den < den) := by
  have hquot : 1 ≤ num / den := by rwa [Int.le_ediv_iff_mul_le hden, one_mul]
  have hmul : num / den * den ≤ num := Int.ediv_mul_le _ hden.ne'
  rw [passCount, max_eq_left hquot]
  obtain ⟨heq, hmin⟩ | ⟨heq, hmin⟩ := min_cases (num / den) ((qmax - fixed) / other)
  · have := Int.lt_ediv_add_one_mul_self num hden
    rw [heq]
    exact ⟨hmul, .inr (by linarith)⟩
  · have := Int.lt_ediv_add_one_mul_self (qmax - fixed) (by omega : 0 < other)
    have := Int.mul_le_mul_of_nonneg_right hmin.le hden.le
    rw [heq]
    exact ⟨by linarith, .inl (by linarith)⟩

/-- What a pass of the search does: one bracket moves towards the other, no further than the
target, and the next pass is on the other side or there is none (R205 to R209). -/
inductive PassEffect (x y qmax : Int) (k : Brackets) : Brackets → Prop
  | left (n : Int) (room : k.b + k.d ≤ qmax) (side : rightDistance x y k ≤ leftDistance x y k)
      (pos : 1 ≤ n) (inside : n * rightDistance x y k ≤ leftDistance x y k)
      (turns : qmax < (k.moveLeft n).b + k.d ∨
        leftDistance x y (k.moveLeft n) < rightDistance x y k) :
      PassEffect x y qmax k (k.moveLeft n)
  | right (n : Int) (room : k.b + k.d ≤ qmax) (side : leftDistance x y k < rightDistance x y k)
      (pos : 1 ≤ n) (inside : n * leftDistance x y k ≤ rightDistance x y k)
      (turns : qmax < k.b + (k.moveRight n).d ∨
        rightDistance x y (k.moveRight n) < leftDistance x y k) :
      PassEffect x y qmax k (k.moveRight n)

/-- The side selection of R205 compares the two distances. -/
theorem mediant_le_target_iff (x y : Int) (k : Brackets) :
    (k.a + k.c) * y ≤ x * (k.b + k.d) ↔ rightDistance x y k ≤ leftDistance x y k := by
  unfold leftDistance rightDistance
  constructor <;> intro h <;> linarith

theorem leftPass_effect {x y qmax : Int} {k k' : Brackets} (hk : BracketsInv qmax k)
    (he : Encloses x y k) (room : k.b + k.d ≤ qmax)
    (side : rightDistance x y k ≤ leftDistance x y k) (h : leftPass x y qmax k = some k') :
    PassEffect x y qmax k k' := by
  unfold leftPass at h
  split at h
  · cases h
  · next hguard =>
    obtain rfl := Option.some.inj h
    obtain ⟨inside, turns⟩ := passCount_greatest (qmax := qmax) (fixed := k.b) hk.right_den.1
      (lt_of_le_of_ne he.le_right (Ne.symm hguard)) side
    exact .left _ room side (passCount_bounds hk.right_den.1 room).1 inside
      (by rwa [leftDistance_moveLeft])

theorem rightPass_effect {x y qmax : Int} {k k' : Brackets} (hk : BracketsInv qmax k)
    (he : Encloses x y k) (room : k.b + k.d ≤ qmax)
    (side : leftDistance x y k < rightDistance x y k) (h : rightPass x y qmax k = some k') :
    PassEffect x y qmax k k' := by
  unfold rightPass at h
  split at h
  · cases h
  · next hguard =>
    obtain rfl := Option.some.inj h
    obtain ⟨inside, turns⟩ := passCount_greatest (qmax := qmax) (fixed := k.d) hk.left_den.1
      (lt_of_le_of_ne he.left_le (Ne.symm hguard)) side.le
    exact .right _ room side (passCount_bounds hk.left_den.1 (by omega)).1 inside
      (by rwa [rightDistance_moveRight, add_comm k.b])

theorem solverPass_effect {x y qmax : Int} {k k' : Brackets} (hk : BracketsInv qmax k)
    (he : Encloses x y k) (h : solverPass x y qmax k = some k') : PassEffect x y qmax k k' := by
  obtain ⟨room, ⟨side, hpass⟩ | ⟨side, hpass⟩⟩ := solverPass_cases h
  · exact leftPass_effect hk he room ((mediant_le_target_iff x y k).1 side) hpass
  · exact rightPass_effect hk he room
      (lt_of_not_ge fun hle => side.not_ge ((mediant_le_target_iff x y k).2 hle)) hpass

/-- The search ends past the cap on the denominator, or with a bracket at the target (R204,
R208). -/
theorem solverPass_none_cases {x y qmax : Int} {k : Brackets} (h : solverPass x y qmax k = none) :
    qmax < k.b + k.d ∨ leftDistance x y k = 0 ∨ rightDistance x y k = 0 := by
  unfold solverPass at h
  split at h
  · next hroom => exact .inl hroom
  split at h
  · exact .inr (.inr (by simpa [leftPass] using h))
  · exact .inr (.inl (by simpa [rightPass] using h))

theorem passEffect_encloses {x y qmax : Int} {k k' : Brackets} (he : Encloses x y k)
    (h : PassEffect x y qmax k k') : Encloses x y k' := by
  cases h with
  | left n _ _ _ inside =>
    exact ⟨by simp only [Brackets.moveLeft]; linarith [he.adjacent],
      by rw [leftDistance_moveLeft]; omega, he.le_right⟩
  | right n _ _ _ inside =>
    exact ⟨by simp only [Brackets.moveRight]; linarith [he.adjacent], he.left_le,
      by rw [rightDistance_moveRight]; omega⟩

/-! ### The Fibonacci growth of the denominators -/

/-- The larger denominator has reached the Fibonacci number of the iteration count, and before
each pass the retained one is the larger (R210). -/
structure FibonacciGrowth (x y qmax : Int) (k : Brackets) : Prop where
  before_left : k.b + k.d ≤ qmax → rightDistance x y k ≤ leftDistance x y k →
    (Nat.fib (k.it + 1) : Int) ≤ k.b ∧ (Nat.fib (k.it + 2) : Int) ≤ k.d
  before_right : k.b + k.d ≤ qmax → leftDistance x y k < rightDistance x y k →
    (Nat.fib (k.it + 1) : Int) ≤ k.d ∧ (Nat.fib (k.it + 2) : Int) ≤ k.b
  reached : (Nat.fib (k.it + 2) : Int) ≤ max k.b k.d

theorem firstBrackets_growth (x y qmax : Int) : FibonacciGrowth x y qmax firstBrackets :=
  ⟨fun _ _ => by decide, fun _ _ => by decide, by decide⟩

/-- At least one step of size `other` carries the denominator on to the next Fibonacci number. -/
theorem fib_le_add_mul {i : Nat} {fixed other n : Int} (hn : 1 ≤ n)
    (hfixed : (Nat.fib (i + 1) : Int) ≤ fixed) (hother : (Nat.fib (i + 2) : Int) ≤ other) :
    (Nat.fib (i + 3) : Int) ≤ fixed + n * other := by
  have hstep : other ≤ n * other := le_mul_of_one_le_left (by omega) hn
  have hfib : Nat.fib (i + 3) = Nat.fib (i + 1) + Nat.fib (i + 2) := Nat.fib_add_two
  omega

theorem passEffect_growth {x y qmax : Int} {k k' : Brackets} (hg : FibonacciGrowth x y qmax k)
    (h : PassEffect x y qmax k k') : FibonacciGrowth x y qmax k' := by
  cases h with
  | left n room side pos _ turns =>
    obtain ⟨hb, hd⟩ := hg.before_left room side
    have hfib := fib_le_add_mul pos hb hd
    exact ⟨fun hroom hside => absurd turns (not_or.2 ⟨hroom.not_gt, hside.not_gt⟩),
      fun _ _ => ⟨hd, hfib⟩, hfib.trans (le_max_left _ _)⟩
  | right n room side pos _ turns =>
    obtain ⟨hd, hb⟩ := hg.before_right room side
    have hfib := fib_le_add_mul pos hd hb
    exact ⟨fun _ _ => ⟨hb, hfib⟩,
      fun hroom hside => absurd turns (not_or.2 ⟨hroom.not_gt, hside.not_gt⟩),
      hfib.trans (le_max_right _ _)⟩

/-! ### The search -/

/-- What every pass of the search keeps. -/
structure SearchInv (x y qmax : Int) (k : Brackets) : Prop where
  ratios : BracketsInv qmax k
  encloses : Encloses x y k
  growth : FibonacciGrowth x y qmax k

theorem firstBrackets_searchInv {x y qmax : Int} (h0 : 0 ≤ x) (hxy : x ≤ y) (hq : 1 ≤ qmax) :
    SearchInv x y qmax firstBrackets :=
  ⟨firstBrackets_inv hq, firstBrackets_encloses h0 hxy, firstBrackets_growth x y qmax⟩

theorem solverPass_searchInv {x y qmax : Int} {k k' : Brackets} (hk : SearchInv x y qmax k)
    (h : solverPass x y qmax k = some k') : SearchInv x y qmax k' :=
  have heffect := solverPass_effect hk.ratios hk.encloses h
  ⟨(solverPass_inv hk.ratios h).1, passEffect_encloses hk.encloses heffect,
    passEffect_growth hk.growth heffect⟩

/-- The loop keeps its invariant, and it ends by itself unless it makes all its passes. -/
theorem solverSearch_ends {x y qmax : Int} (n : Nat) :
    ∀ {k : Brackets}, SearchInv x y qmax k →
      SearchInv x y qmax (solverSearch x y qmax n k) ∧
        (solverPass x y qmax (solverSearch x y qmax n k) = none ∨
          (solverSearch x y qmax n k).it = k.it + n) := by
  induction n with
  | zero => exact fun hk => ⟨hk, .inr rfl⟩
  | succ n ih =>
    intro k hk
    unfold solverSearch
    split
    · next hpass => exact ⟨hk, .inl hpass⟩
    · next k' hpass =>
      obtain ⟨hinv, hend⟩ := ih (solverPass_searchInv hk hpass)
      have hit := (solverPass_inv hk.ratios hpass).2
      exact ⟨hinv, hend.imp_right (by omega)⟩

/-- The Fibonacci number F(48) is above 2^32. -/
theorem SearchInv.it_le {x y qmax : Int} {k : Brackets} (hk : SearchInv x y qmax k)
    (hq : qmax < 2 ^ 32) : k.it ≤ 45 := by
  by_contra! hit
  have hfib : Nat.fib 48 ≤ Nat.fib (k.it + 2) := Nat.fib_mono (by omega)
  have hreached := hk.growth.reached
  have hmax : max k.b k.d ≤ qmax := max_le hk.ratios.left_den.2 hk.ratios.right_den.2
  have hvalue : Nat.fib 48 = 4807526976 := by decide
  omega

/-- The brackets the search ends with. -/
def finalBrackets (x y qmax : Int) : Brackets :=
  solverSearch x y (max qmax 1) iterationCap firstBrackets

theorem solve_of_in_range {x y : Int} (qmax : Int) (h0 : 0 ≤ x) (hxy : x ≤ y) :
    solve x y qmax = selectBracket x y (finalBrackets x y qmax) := by
  rw [solve, if_neg hxy.not_gt, if_neg h0.not_gt, finalBrackets]

theorem solve_of_above {x y : Int} (qmax : Int) (h : y < x) : solve x y qmax = ⟨1, 1, 0⟩ :=
  if_pos h

theorem solve_of_below {x y : Int} (qmax : Int) (hy : 1 ≤ y) (h : x < 0) :
    solve x y qmax = ⟨0, 1, 0⟩ := by
  rw [solve, if_neg (by omega), if_pos h]

theorem solve_cases (x y qmax : Int) :
    solve x y qmax = ⟨1, 1, 0⟩ ∨ solve x y qmax = ⟨0, 1, 0⟩ ∨
      (0 ≤ x ∧ x ≤ y ∧ solve x y qmax = selectBracket x y (finalBrackets x y qmax)) := by
  unfold solve
  split
  · exact .inl rfl
  · split
    · exact .inr (.inl rfl)
    · exact .inr (.inr ⟨by omega, by omega, rfl⟩)

theorem finalBrackets_searchInv {x y : Int} (qmax : Int) (h0 : 0 ≤ x) (hxy : x ≤ y) :
    SearchInv x y (max qmax 1) (finalBrackets x y qmax) :=
  (solverSearch_ends iterationCap (firstBrackets_searchInv h0 hxy (le_max_right _ _))).1

/-- Below the cap of 2^32 the search is not cut off (R210). -/
theorem finalBrackets_ended {x y qmax : Int} (h0 : 0 ≤ x) (hxy : x ≤ y) (hq : qmax < 2 ^ 32) :
    solverPass x y (max qmax 1) (finalBrackets x y qmax) = none := by
  obtain ⟨hinv, hend⟩ :=
    solverSearch_ends iterationCap (firstBrackets_searchInv h0 hxy (le_max_right qmax 1))
  have hit := hinv.it_le (by omega)
  refine hend.resolve_right fun hcap => ?_
  rw [hcap] at hit
  exact absurd hit (by decide)

/-! ### The selected bracket -/

theorem selectBracket_it (x y : Int) (k : Brackets) : (selectBracket x y k).it = k.it :=
  (apply_ite Approximation.it _ _ _).trans (ite_self _)

/-- Adjacent fractions are in lowest terms (R212). -/
theorem selectBracket_gcd {x y : Int} {k : Brackets} (he : Encloses x y k) :
    Int.gcd (selectBracket x y k).p (selectBracket x y k).q = 1 := by
  have hadj := he.adjacent
  unfold selectBracket
  split
  · exact Int.isCoprime_iff_gcd_eq_one.1 ⟨-k.d, k.c, by linarith⟩
  · exact Int.isCoprime_iff_gcd_eq_one.1 ⟨k.b, -k.a, by linarith⟩

/-- `p₀ / q₀` is no farther from `x / y` than `p / q`, and not the larger one when the two are
equally far (R213). -/
def Beats (x y p₀ q₀ p q : Int) : Prop :=
  |p₀ * y - x * q₀| * q ≤ |p * y - x * q| * q₀ ∧
    (|p₀ * y - x * q₀| * q = |p * y - x * q| * q₀ → p₀ * q ≤ p * q₀)

theorem beats_of_exact {x y p₀ q₀ : Int} (hy : 1 ≤ y) (hq₀ : 1 ≤ q₀) (h : p₀ * y = x * q₀)
    (p q : Int) : Beats x y p₀ q₀ p q := by
  have hzero : |p₀ * y - x * q₀| = 0 := by rw [h, sub_self, abs_zero]
  unfold Beats
  rw [hzero, zero_mul]
  refine ⟨mul_nonneg (abs_nonneg _) (by omega), fun heq => le_of_eq ?_⟩
  have hexact : p * y = x * q := by
    have := (mul_eq_zero.1 heq.symm).resolve_right (by omega)
    exact sub_eq_zero.1 (abs_eq_zero.1 this)
  refine mul_right_cancel₀ (by omega : y ≠ 0) ?_
  linear_combination q * h - q₀ * hexact

theorem Beats.refl (x y p q : Int) : Beats x y p q p q := ⟨le_rfl, fun _ => le_rfl⟩

theorem Beats.trans {x y p₀ q₀ p₁ q₁ p q : Int} (hq₀ : 1 ≤ q₀) (hq₁ : 1 ≤ q₁) (hq : 1 ≤ q)
    (h₀ : Beats x y p₀ q₀ p₁ q₁) (h₁ : Beats x y p₁ q₁ p q) : Beats x y p₀ q₀ p q := by
  unfold Beats at *
  generalize |p₀ * y - x * q₀| = e₀ at *
  generalize |p₁ * y - x * q₁| = e₁ at *
  generalize |p * y - x * q| = e at *
  obtain ⟨hle₀, htie₀⟩ := h₀
  obtain ⟨hle₁, htie₁⟩ := h₁
  have hfirst : e₀ * q₁ * q ≤ e₁ * q₀ * q := Int.mul_le_mul_of_nonneg_right hle₀ (by omega)
  have hsecond : e₁ * q * q₀ ≤ e * q₁ * q₀ := Int.mul_le_mul_of_nonneg_right hle₁ (by omega)
  refine ⟨le_of_mul_le_mul_right (a := q₁) (by linarith) (by omega), fun htie => ?_⟩
  have hends : e₀ * q₁ * q = e * q₁ * q₀ := by linear_combination q₁ * htie
  have hp₀ := htie₀ (mul_right_cancel₀ (by omega : q ≠ 0) (by linarith))
  have hp₁ := htie₁ (mul_right_cancel₀ (by omega : q₀ ≠ 0) (by linarith))
  have hfirst := Int.mul_le_mul_of_nonneg_right hp₀ (by omega : 0 ≤ q)
  have hsecond := Int.mul_le_mul_of_nonneg_right hp₁ (by omega : 0 ≤ q₀)
  exact le_of_mul_le_mul_right (a := q₁) (by linarith) (by omega)

theorem Encloses.abs_left {x y : Int} {k : Brackets} (he : Encloses x y k) :
    |k.a * y - x * k.b| = leftDistance x y k := by
  rw [abs_sub_comm]
  exact abs_of_nonneg he.left_le

theorem Encloses.abs_right {x y : Int} {k : Brackets} (he : Encloses x y k) :
    |k.c * y - x * k.d| = rightDistance x y k :=
  abs_of_nonneg he.le_right

theorem Encloses.left_beats {x y p q : Int} {k : Brackets} (he : Encloses x y k) (hy : 1 ≤ y)
    (hb : 1 ≤ k.b) (h : p * k.b ≤ k.a * q) : Beats x y k.a k.b p q := by
  have hgap : (x * q - p * y) * k.b = leftDistance x y k * q + (k.a * q - p * k.b) * y := by
    unfold leftDistance
    ring
  have habs : (x * q - p * y) * k.b ≤ |p * y - x * q| * k.b :=
    Int.mul_le_mul_of_nonneg_right (abs_sub_comm (p * y) _ ▸ le_abs_self _) (by omega)
  have hfar := mul_nonneg (sub_nonneg.2 h) (by omega : 0 ≤ y)
  unfold Beats
  rw [he.abs_left]
  refine ⟨by omega, fun htie => ?_⟩
  have hzero : (k.a * q - p * k.b) * y ≤ 0 := by omega
  exact sub_nonpos.1 (nonpos_of_mul_nonpos_left hzero (by omega))

theorem Encloses.right_beats {x y p q : Int} {k : Brackets} (he : Encloses x y k) (hy : 1 ≤ y)
    (hd : 1 ≤ k.d) (h : k.c * q ≤ p * k.d) : Beats x y k.c k.d p q := by
  have hgap : (p * y - x * q) * k.d = rightDistance x y k * q + (p * k.d - k.c * q) * y := by
    unfold rightDistance
    ring
  have habs : (p * y - x * q) * k.d ≤ |p * y - x * q| * k.d :=
    Int.mul_le_mul_of_nonneg_right (le_abs_self _) (by omega)
  have hfar := mul_nonneg (sub_nonneg.2 h) (by omega : 0 ≤ y)
  unfold Beats
  rw [he.abs_right]
  exact ⟨by omega, fun _ => h⟩

/-- The selection of R211, and its tie. -/
theorem selectBracket_beats_brackets {x y : Int} {k : Brackets} (he : Encloses x y k) :
    Beats x y (selectBracket x y k).p (selectBracket x y k).q k.a k.b ∧
      Beats x y (selectBracket x y k).p (selectBracket x y k).q k.c k.d := by
  have hadj := he.adjacent
  unfold selectBracket
  split
  · next hle =>
    refine ⟨.refl .., ?_⟩
    unfold Beats
    rw [he.abs_left, he.abs_right]
    exact ⟨hle, fun _ => by dsimp only; omega⟩
  · next hlt =>
    refine ⟨?_, .refl ..⟩
    unfold Beats
    rw [he.abs_left, he.abs_right]
    exact ⟨(not_le.1 hlt).le, fun htie => absurd htie.ge hlt⟩

/-- A fraction strictly between adjacent ones has at least the sum of their denominators. -/
theorem Encloses.outside {x y p q : Int} {k : Brackets} (he : Encloses x y k) (hb : 1 ≤ k.b)
    (hd : 1 ≤ k.d) (hq : q < k.b + k.d) : p * k.b ≤ k.a * q ∨ k.c * q ≤ p * k.d := by
  by_contra! h
  obtain ⟨hleft, hright⟩ := h
  have hden : q = (p * k.b - k.a * q) * k.d + (k.c * q - p * k.d) * k.b := by
    linear_combination -q * he.adjacent
  have := le_mul_of_one_le_left (by omega : 0 ≤ k.d) (by omega : 1 ≤ p * k.b - k.a * q)
  have := le_mul_of_one_le_left (by omega : 0 ≤ k.b) (by omega : 1 ≤ k.c * q - p * k.d)
  omega

/-- Where the search ends, one of the brackets is as good as any fraction under the cap: it is the
target (R208), or no such fraction lies between the brackets (R204). -/
theorem bracket_beats_of_ended {x y qmax p q : Int} {k : Brackets} (hk : SearchInv x y qmax k)
    (hend : solverPass x y qmax k = none) (hy : 1 ≤ y) (hq : q ≤ qmax) :
    Beats x y k.a k.b p q ∨ Beats x y k.c k.d p q := by
  have hb := hk.ratios.left_den.1
  have hd := hk.ratios.right_den.1
  obtain hroom | hleft | hright := solverPass_none_cases hend
  · exact (hk.encloses.outside hb hd (by omega)).imp (hk.encloses.left_beats hy hb)
      (hk.encloses.right_beats hy hd)
  · exact .inl (beats_of_exact hy hb (sub_eq_zero.1 hleft).symm p q)
  · exact .inr (beats_of_exact hy hd (sub_eq_zero.1 hright) p q)

/-! ### The statements -/

/-- Settles O48: the brackets are ratios, and adjacent ones. -/
theorem solverResultIsAProperFraction : Obligations.SolverResultIsAProperFraction := by
  intro x y qmax hy _
  have hr := solve_isRatio x y qmax
  refine ⟨hr.den_pos, hr.num_nonneg, hr.num_le_den, ?_, fun _ _ => hr.den_le,
    solve_of_above qmax, solve_of_below qmax hy⟩
  obtain h | h | ⟨h0, hxy, h⟩ := solve_cases x y qmax <;> rw [h]
  · decide
  · decide
  · exact selectBracket_gcd (finalBrackets_searchInv qmax h0 hxy).encloses

/-- Settles O49: the selected bracket beats both brackets, one of which beats every fraction under
the cap. -/
theorem solverResultIsClosest : Obligations.SolverResultIsClosest := by
  intro x y qmax h0 hxy hy _ hqmax r p q hq hcap
  have hinv := finalBrackets_searchInv qmax h0 hxy
  have hpos := (solve_isRatio x y qmax).den_pos
  obtain ⟨hleft, hright⟩ := selectBracket_beats_brackets hinv.encloses
  rw [← solve_of_in_range qmax h0 hxy] at hleft hright
  change Beats x y r.p r.q p q
  obtain h | h := bracket_beats_of_ended (p := p) hinv (finalBrackets_ended h0 hxy hqmax) hy hcap
  · exact hleft.trans hpos hinv.ratios.left_den.1 hq h
  · exact hright.trans hpos hinv.ratios.right_den.1 hq h

/-- Settles O50: the denominators outgrow the cap in 46 passes. -/
theorem solverTakesAtMost45Passes : Obligations.SolverTakesAtMost45Passes := by
  intro x y qmax _ _ hqmax
  obtain h | h | ⟨h0, hxy, h⟩ := solve_cases x y qmax <;> rw [h]
  · decide
  · decide
  · rw [selectBracket_it]
    exact (finalBrackets_searchInv qmax h0 hxy).it_le (by omega)

/-- SOLV_P, SOLV_Q and SOLV_ITER are wide enough for every result (R214). -/
theorem solveRegisters_lossless (s : State) :
    let r := solve s.solvTnum.toInt s.solvTden.toNat s.solvQmax.toNat
    ((solveRegisters s).solvP.toNat : Int) = r.p ∧ ((solveRegisters s).solvQ.toNat : Int) = r.q ∧
      (solveRegisters s).solvIter.toNat = r.it := by
  obtain ⟨h0, hpq, hq, hqmax, hit⟩ :=
    solve_isRatio s.solvTnum.toInt s.solvTden.toNat s.solvQmax.toNat
  have hwidth := s.solvQmax.isLt
  have hp : (solveRegisters s).solvP.toNat = _ := toNat_ofInt_of_lt h0 (by omega)
  have hd : (solveRegisters s).solvQ.toNat = _ := toNat_ofInt_of_lt (by omega) (by omega)
  exact ⟨by omega, by omega, toNat_ofNat_of_lt (by omega)⟩

/-- The gate of R442 admits a command in IDLE outside FATAL. -/
theorem commandGate_of_idle {s : State} (sound : s.fatal = false) (idle : s.seq = .idle)
    (r : Host.Outcome State Fault Refusal) : commandGate r s = r := by
  simp [commandGate, sound, idle]

/-- Settles O38: the gate is open, and the result registers take the result whole. -/
theorem solveCommandStoresTheSolution : Obligations.SolveCommandStoresTheSolution :=
  fun s sound idle => ⟨_, _, _, commandGate_of_idle sound idle (accept (solveRegisters s)),
    fun _ => solveRegisters_lossless s⟩

end Sys2Proof.Machine
end

section
/-! PROOFS. Quantizing and packing (42_waveform_fill.md R252 to R276): the draws, the codes of a
series, the slots of a packed word and the shape of the four buffers of a fill. -/

namespace Sys2Proof.Machine

/-! ### Dither -/

/-- The bits repeat those `k` places below, and below bit 0 there is none. -/
theorem eq_zero_of_eq_shiftLeft {n k : Nat} {x : BitVec n} (hk : 0 < k) (h : x = x <<< k) :
    x = 0 := by
  have clear : ∀ i, x.getLsbD i = false := by
    intro i
    induction i using Nat.strong_induction_on with
    | _ i ih =>
      rw [h, BitVec.getLsbD_shiftLeft]
      by_cases hi : i < k
      · simp [hi]
      · simp [ih (i - k) (by omega)]
  exact BitVec.eq_of_getLsbD_eq fun i _ => by simp [clear i]

/-- Only 0 is its own quotient by `2 ^ k`. -/
theorem eq_zero_of_eq_ushiftRight {n k : Nat} {x : BitVec n} (hk : 0 < k) (h : x = x >>> k) :
    x = 0 := by
  have hdiv : x.toNat = x.toNat / 2 ^ k := by
    conv_lhs => rw [h, BitVec.toNat_ushiftRight, Nat.shiftRight_eq_div_pow]
  by_contra hx
  have hpos : 0 < x.toNat := Nat.pos_of_ne_zero fun h0 =>
    hx (BitVec.eq_of_toNat_eq (by simpa using h0))
  have := Nat.div_lt_self hpos (Nat.one_lt_two_pow (by omega : k ≠ 0))
  omega

/-- Each of the three xorshift rounds has only 0 in its kernel (R252). -/
theorem draw_ne_zero {r : Word} (hr : r ≠ 0#32) : draw r ≠ 0#32 := by
  have left : ∀ {x : Word} {k : Nat}, 0 < k → x ≠ 0#32 → x ^^^ (x <<< k) ≠ 0#32 :=
    fun hk hx h => hx (eq_zero_of_eq_shiftLeft hk (BitVec.xor_eq_zero_iff.1 h))
  have right : ∀ {x : Word} {k : Nat}, 0 < k → x ≠ 0#32 → x ^^^ (x >>> k) ≠ 0#32 :=
    fun hk hx h => hx (eq_zero_of_eq_ushiftRight hk (BitVec.xor_eq_zero_iff.1 h))
  exact left (by omega) (right (by omega) (left (by omega) hr))

/-- The draw is at least -2^31 and below 2^31, so the scaled draw keeps to DITHER (R254). -/
theorem ditherValue_bounds {dither : BitVec 18} (h : dither ≠ 0#18) (r : Word) :
    -(dither.toNat : Int) ≤ ditherValue dither r ∧ ditherValue dither r < dither.toNat := by
  have hpos : (0 : Int) < dither.toNat := by
    have : dither.toNat ≠ 0 := fun h0 => h (BitVec.eq_of_toNat_eq h0)
    omega
  have hlo : -2 ^ 31 ≤ r.toInt := BitVec.le_toInt r
  have hhi : r.toInt < 2 ^ 31 := BitVec.toInt_lt
  unfold ditherValue asr
  exact ⟨Int.le_ediv_of_mul_le (by omega) (by nlinarith),
    Int.ediv_lt_of_lt_mul (by omega) (by nlinarith)⟩

/-- Settles O57, by the kernel of the xorshift rounds and the range of a draw. -/
theorem ditherStaysInRange : Obligations.DitherStaysInRange := by
  refine ⟨fun _ => draw_ne_zero, fun dither r => ⟨?_, fun h => ditherValue_bounds h r⟩⟩
  rintro rfl
  simp [ditherValue, asr]

/-! ### The codes of a series -/

/-- The two two-level quantizers never decide for the middle level (R260, R261). -/
theorem decideLevel_ne_zero {q : Quantizer} (hq : q ≠ .trinary) (v : Int) :
    decideLevel q v ≠ .zero := by
  cases q with
  | trinary => exact absurd rfl hq
  | comparator | binary => by_cases hv : 0 ≤ v <;> simp [decideLevel, hv]

/-- Both bits are set for a middle level only (R268). -/
theorem sampleCode_ne_three {y : Level} (hy : y ≠ .zero) (last : Bool) :
    sampleCode y last ≠ 0b11#2 := by
  cases y with
  | zero => exact absurd rfl hy
  | plus | minus => simp [sampleCode]

theorem quantizeSeries_two_level {q : Quantizer} (hq : q ≠ .trinary) (dither : BitVec 18)
    (xs : List Int) : ∀ (r : Word) (st : QuantState),
      ∀ c ∈ (quantizeSeries q dither xs r st).1, c ≠ 0b11#2 := by
  induction xs with
  | nil => intro r st c hc; cases hc
  | cons x xs ih =>
    intro r st c hc
    rcases List.mem_cons.1 hc with rfl | hc
    · exact sampleCode_ne_three (decideLevel_ne_zero hq _) _
    · exact ih _ _ c hc

/-- The middle-level codes of a series. -/
def middleCodes (cs : List (BitVec 2)) : List (BitVec 2) :=
  cs.filter fun c => c == 0b00#2 || c == 0b11#2

theorem middleCodes_cons_zero (last : Bool) (cs : List (BitVec 2)) :
    middleCodes (sampleCode .zero last :: cs) = sampleCode .zero last :: middleCodes cs := by
  cases last <;> rfl

theorem middleCodes_cons_of_ne_zero {y : Level} (hy : y ≠ .zero) (last : Bool)
    (cs : List (BitVec 2)) : middleCodes (sampleCode y last :: cs) = middleCodes cs := by
  cases y with
  | zero => exact absurd rfl hy
  | plus | minus => rfl

theorem toggleLast_of_ne_zero {y : Level} (hy : y ≠ .zero) (last : Bool) :
    toggleLast y last = last := by
  cases y with
  | zero => exact absurd rfl hy
  | plus | minus => rfl

/-- The alternation goes on from the bit a series stands at (R267). -/
theorem middleCodes_quantizeSeries (q : Quantizer) (dither : BitVec 18) (xs : List Int) :
    ∀ (r : Word) (st : QuantState) (i : Nat),
      i < (middleCodes (quantizeSeries q dither xs r st).1).length →
      (middleCodes (quantizeSeries q dither xs r st).1).getD i 0#2 =
        sampleCode .zero (st.last ^^ decide (i % 2 = 1)) := by
  induction xs with
  | nil => intro r st i hi; exact absurd hi (Nat.not_lt_zero i)
  | cons x xs ih =>
    intro r st i hi
    have hnext := ih (draw r) (quantize q x (ditherValue dither (draw r)) st).2
    simp only [quantizeSeries, quantize] at hi hnext ⊢
    generalize decideLevel q (quantInput q x (ditherValue dither (draw r)) st.err) = y at *
    by_cases hy : y = .zero
    · subst hy
      rw [middleCodes_cons_zero] at hi ⊢
      cases i with
      | zero => simp
      | succ i =>
        rw [List.getD_cons_succ, hnext i (by simpa using hi)]
        have hparity : decide ((i + 1) % 2 = 1) = !decide (i % 2 = 1) := by
          rw [← decide_not]; exact decide_eq_decide.2 (by omega)
        simp [toggleLast, hparity]
    · rw [middleCodes_cons_of_ne_zero hy] at hi ⊢
      rw [hnext i hi, toggleLast_of_ne_zero hy]

/-- Settles O54: a series starts with the alternation bit 0. -/
theorem middleLevelAlternates : Obligations.MiddleLevelAlternates := by
  intro q dither xs r middle i hi
  have h := middleCodes_quantizeSeries q dither xs r QuantState.init i hi
  rw [show middle.getD i 0#2 = _ from h]
  obtain hpar | hpar : i % 2 = 0 ∨ i % 2 = 1 := by omega
  · simp [hpar, QuantState.init, sampleCode]
  · simp [hpar, QuantState.init, sampleCode]

/-! ### Packing -/

theorem packWord_cons_slot_zero (c : BitVec 2) (cs : List (BitVec 2)) :
    (packWord (c :: cs)).setWidth 2 = c := by
  refine BitVec.eq_of_getLsbD_eq fun i hi => ?_
  simp [packWord, hi]

theorem packWord_cons_slot_succ (c : BitVec 2) (cs : List (BitVec 2)) {j : Nat} (hj : j + 1 < 16) :
    (packWord (c :: cs) >>> (2 * (j + 1))).setWidth 2 = (packWord cs >>> (2 * j)).setWidth 2 := by
  refine BitVec.eq_of_getLsbD_eq fun i hi => ?_
  have hhigh : c.getLsbD (2 * (j + 1) + i) = false := BitVec.getLsbD_of_ge _ _ (by omega)
  simp [packWord, hi, hhigh, show 2 * (j + 1) + i < 32 by omega,
    show 1 < 2 * (j + 1) + i by omega, show 2 * (j + 1) + i - 2 = 2 * j + i by omega,
    BitVec.getLsbD_eq_getElem, show 2 * j + i < 32 by omega]

/-- Slot `j` of a packed word holds code `j`, and 0 beyond the codes (R269). -/
theorem packWord_slot (cs : List (BitVec 2)) :
    ∀ {j : Nat}, j < 16 → (packWord cs >>> (2 * j)).setWidth 2 = cs.getD j 0#2 := by
  induction cs with
  | nil => intro j _; simp [packWord]
  | cons c cs ih =>
    intro j hj
    cases j with
    | zero => simpa using packWord_cons_slot_zero c cs
    | succ j => rw [packWord_cons_slot_succ c cs hj, ih (by omega), List.getD_cons_succ]

@[simp] theorem packWords_length (w : Nat) : ∀ cs, (packWords w cs).length = w := by
  induction w with
  | zero => exact fun _ => rfl
  | succ w ih => intro cs; simp [packWords, ih]

/-- Word `k` packs the sixteen codes from `16 * k` on. -/
theorem packWords_getD (w : Nat) : ∀ (cs : List (BitVec 2)) {k : Nat}, k < w →
    (packWords w cs).getD k 0#32 = packWord ((cs.drop (16 * k)).take 16) := by
  induction w with
  | zero => intro cs k hk; omega
  | succ w ih =>
    intro cs k hk
    cases k with
    | zero => rfl
    | succ k =>
      rw [packWords, List.getD_cons_succ, ih _ (by omega), List.drop_drop,
        show 16 + 16 * k = 16 * (k + 1) by omega]

/-- Settles O58: the word's codes and the slot's code, put together. -/
theorem packedSamplesReadBack : Obligations.PackedSamplesReadBack := by
  intro w codes _ i hi
  have hslot : i % 16 < 16 := Nat.mod_lt _ (by omega)
  rw [packWords_getD w codes (by omega), packWord_slot _ hslot]
  simp [List.getD_eq_getElem?_getD, hslot, Nat.div_add_mod]

theorem exists_packWord_of_mem_packWords (w : Nat) : ∀ (cs : List (BitVec 2)) {v : Word},
    v ∈ packWords w cs → ∃ chunk, v = packWord chunk ∧ chunk ⊆ cs := by
  induction w with
  | zero => intro cs v hv; cases hv
  | succ w ih =>
    intro cs v hv
    rcases List.mem_cons.1 hv with rfl | hv
    · exact ⟨_, rfl, List.take_subset _ _⟩
    · obtain ⟨chunk, hpack, hsub⟩ := ih _ hv
      exact ⟨chunk, hpack, fun c hc => List.drop_subset _ _ (hsub hc)⟩

/-! ### The four buffers -/

theorem padWords_length {cap : Nat} {ws : List Word} (h : ws.length ≤ cap) :
    (padWords cap ws).length = cap := by
  simp [padWords]; omega

theorem padWords_tail (cap : Nat) {ws : List Word} {w : Nat} (h : ws.length ≤ w) :
    (padWords cap ws).getD w 0#32 = 0#32 := by
  simp [padWords, List.getD_eq_getElem?_getD, List.getElem?_append_right h,
    List.getElem?_replicate]
  split <;> rfl

/-- The silent buffer is nothing but padding (R270). -/
theorem silentWords_eq_padWords (cap : Nat) : silentWords cap = padWords cap [] := by
  simp [silentWords, padWords]

/-- Each buffer of a fill is the padded words of a quantized series, or silent (R270 to R274). -/
theorem fill_words_cases (sin : Word → Int) (cap : Nat) (f : FillInput) (b : BitVec 2) :
    Buffers.words (fill sin cap f) b = silentWords cap ∨
      ∃ xs r, Buffers.words (fill sin cap f) b = padWords cap (packWords f.words
        (quantizeSeries (quantizerOf f.mode) f.dither xs r QuantState.init).1) := by
  unfold Buffers.words fill
  cases clickFree f.mode
  · split
    · exact .inl rfl
    split
    · exact .inr ⟨_, _, rfl⟩
    split
    · exact .inr ⟨_, _, rfl⟩
    · exact .inl rfl
  · split
    · exact .inl rfl
    split
    · exact .inr ⟨_, _, rfl⟩
    split
    · exact .inr ⟨_, _, rfl⟩
    · exact .inr ⟨_, _, rfl⟩

/-- Each buffer of a fill pads at most W words. -/
theorem fill_words_padded (sin : Word → Int) (cap : Nat) (f : FillInput) (b : BitVec 2) :
    ∃ ws, ws.length ≤ f.words ∧ Buffers.words (fill sin cap f) b = padWords cap ws := by
  obtain h | ⟨xs, r, h⟩ := fill_words_cases sin cap f b
  · exact ⟨[], Nat.zero_le _, h.trans (silentWords_eq_padWords cap)⟩
  · exact ⟨_, (packWords_length _ _).le, h⟩

theorem fill_words_length (sin : Word → Int) {cap : Nat} {f : FillInput} (h : f.words ≤ cap)
    (b : BitVec 2) : (Buffers.words (fill sin cap f) b).length = cap := by
  obtain ⟨ws, hws, heq⟩ := fill_words_padded sin cap f b
  rw [heq, padWords_length (by omega)]

theorem fill_words_tail (sin : Word → Int) (cap : Nat) (f : FillInput) (b : BitVec 2) {w : Nat}
    (h : f.words ≤ w) : (Buffers.words (fill sin cap f) b).getD w 0#32 = 0#32 := by
  obtain ⟨ws, hws, heq⟩ := fill_words_padded sin cap f b
  rw [heq, padWords_tail cap (by omega)]

theorem silentWords_getD (cap w : Nat) : (silentWords cap).getD w 0#32 = 0#32 := by
  rw [silentWords_eq_padWords, padWords_tail cap (Nat.zero_le w)]

@[simp] theorem fill_silent (sin : Word → Int) (cap : Nat) (f : FillInput) :
    (fill sin cap f).silent = silentWords cap := by
  unfold fill
  cases clickFree f.mode <;> rfl

/-- Without taper the ramp-up buffer copies steady and ramp-down is silent (R271, R273). -/
theorem fill_ramps_of_not_clickFree (sin : Word → Int) (cap : Nat) {f : FillInput}
    (h : clickFree f.mode = false) :
    (fill sin cap f).rampUp = (fill sin cap f).steady ∧
      (fill sin cap f).rampDown = silentWords cap := by
  simp [fill, h]

/-- Settles O52: every buffer is padded to the capacity, and modes 1 to 3 have no taper. -/
theorem fillKeepsTheBufferShape : Obligations.FillKeepsTheBufferShape := by
  intro sin cap f hcap
  refine ⟨fill_words_length sin hcap, fun w => ?_, fun b w => fill_words_tail sin cap f b,
    fun hmode => ?_⟩
  · rw [fill_silent, silentWords_getD]
  · have hplain : clickFree f.mode = false := by
      obtain h | h | h := hmode <;> rw [h] <;> decide
    obtain ⟨hup, hdown⟩ := fill_ramps_of_not_clickFree sin cap hplain
    exact ⟨hup, fun w => by rw [hdown, silentWords_getD]⟩

/-- No slot of the word holds the code with both bits set. -/
def NoPairBothSet (v : Word) : Prop := ∀ j, j < 16 → (v >>> (2 * j)).setWidth 2 ≠ 0b11#2

theorem noPairBothSet_zero : NoPairBothSet 0#32 := by
  intro j _
  simp

theorem noPairBothSet_packWord {cs : List (BitVec 2)} (h : ∀ c ∈ cs, c ≠ 0b11#2) :
    NoPairBothSet (packWord cs) := by
  intro j hj
  rw [packWord_slot cs hj]
  by_cases hin : j < cs.length
  · rw [List.getD_eq_getElem _ _ hin]
    exact h _ (List.getElem_mem hin)
  · rw [List.getD_eq_default _ _ (by omega)]
    decide

theorem noPairBothSet_padWords {cap w : Nat} {cs : List (BitVec 2)} (h : ∀ c ∈ cs, c ≠ 0b11#2)
    {v : Word} (hv : v ∈ padWords cap (packWords w cs)) : NoPairBothSet v := by
  rcases List.mem_append.1 hv with hv | hv
  · obtain ⟨chunk, rfl, hsub⟩ := exists_packWord_of_mem_packWords w cs hv
    exact noPairBothSet_packWord fun c hc => h c (hsub hc)
  · rw [List.eq_of_mem_replicate hv]
    exact noPairBothSet_zero

/-- Settles O53: these modes select a two-level quantizer, and packing adds only zeros. -/
theorem twoLevelModesNeverSetBothBits : Obligations.TwoLevelModesNeverSetBothBits := by
  intro sin cap f hmode b v hv
  have hq : quantizerOf f.mode ≠ .trinary := by
    obtain h | h | h := hmode <;> rw [h] <;> decide
  obtain h | ⟨xs, r, h⟩ := fill_words_cases sin cap f b <;> rw [h] at hv
  · rw [List.eq_of_mem_replicate hv]
    exact noPairBothSet_zero
  · exact noPairBothSet_padWords (quantizeSeries_two_level hq _ _ _ _) hv

end Sys2Proof.Machine
end

section
/-! PROOFS. What the buffers hold (42_waveform_fill.md R270, R274; 20_memory.md R86): a published
fill is read back word for word, lists only buffer bytes, and leaves the silent buffer and every
tail zero. -/

namespace Sys2Proof.Machine

/-! ### Publishing a fill -/

/-- Every address listed after writing words was listed or lies in one of the words. -/
theorem Memory.mem_writeWord {m : Memory} {a : Nat} {v : Word} {c : Host.Cell}
    (h : c ∈ m.writeWord a v) : c ∈ m ∨ ∃ k, k < 4 ∧ c.1 = a + k := by
  unfold Memory.writeWord at h
  rcases Memory.mem_writeByte h with h | rfl
  · rcases Memory.mem_writeByte h with h | rfl
    · rcases Memory.mem_writeByte h with h | rfl
      · rcases Memory.mem_writeByte h with h | rfl
        · exact .inl h
        · exact .inr ⟨0, by omega, rfl⟩
      · exact .inr ⟨1, by omega, rfl⟩
    · exact .inr ⟨2, by omega, rfl⟩
  · exact .inr ⟨3, by omega, rfl⟩

theorem Memory.mem_writeWords (vs : List Word) : ∀ {m : Memory} {a : Nat} {c : Host.Cell},
    c ∈ m.writeWords a vs →
      c ∈ m ∨ ∃ w k, w < vs.length ∧ k < 4 ∧ c.1 = a + 4 * w + k := by
  induction vs with
  | nil => exact fun h => .inl h
  | cons v vs ih =>
    intro m a c h
    rcases ih h with h | ⟨w, k, hw, hk, hc⟩
    · rcases Memory.mem_writeWord h with h | ⟨k, hk, hc⟩
      · exact .inl h
      · exact .inr ⟨0, k, by simp, hk, by omega⟩
    · exact .inr ⟨w + 1, k, by simpa using hw, hk, by omega⟩

theorem isBufferByte_of_mem_writeWords {m : Memory} {b : BitVec 2} {vs : List Word}
    (hm : ∀ c ∈ m, IsBufferByte c.1) (hlen : vs.length = Config.bufCap) :
    ∀ c ∈ m.writeWords (bufAddr b 0) vs, IsBufferByte c.1 := by
  intro c hc
  rcases Memory.mem_writeWords vs hc with hc | ⟨w, k, hw, hk, hc⟩
  · exact hm c hc
  · exact ⟨b, w, k, by omega, hk, by unfold bufAddr at hc ⊢; omega⟩

/-- Writing a whole buffer leaves the words of the others alone: no buffer has more than 16384
words (00_scope.md R4), which is the distance of their addresses. -/
theorem memRead_writeWords_other {m : Memory} {b b' : BitVec 2} {vs : List Word} {w : Nat}
    (hb : b ≠ b') (hlen : vs.length ≤ 16384) (hw : w < 16384) :
    memRead (m.writeWords (bufAddr b' 0) vs) b w = memRead m b w := by
  refine Memory.readWord_writeWords_other vs ?_
  unfold bufAddr
  have : b.toNat ≠ b'.toNat := fun h => hb (BitVec.eq_of_toNat_eq h)
  omega

theorem memRead_writeWords_same {m : Memory} {b : BitVec 2} {vs : List Word} {w : Nat}
    (hwf : m.wf = true) (hw : w < vs.length) :
    memRead (m.writeWords (bufAddr b 0) vs) b w = vs.getD w 0#32 := by
  rw [List.getD_eq_getElem _ _ hw]
  exact Memory.readWord_writeWords_same vs w hw hwf

/-- A published fill is read back word for word (44_controller.md R355). -/
theorem memRead_publish {f : Buffers} {m : Memory} (hwf : m.wf = true) {cap : Nat}
    (hcap : cap ≤ 16384) (hlen : ∀ b, (Buffers.words f b).length = cap) (b : BitVec 2) {w : Nat}
    (hw : w < cap) : memRead (publish f m) b w = (Buffers.words f b).getD w 0#32 := by
  have h0 : f.silent.length = cap := hlen 0#2
  have h1 : f.steady.length = cap := hlen 1#2
  have h2 : f.rampUp.length = cap := hlen 2#2
  have h3 : f.rampDown.length = cap := hlen 3#2
  have wf0 := Memory.wf_writeWords f.silent (bufAddr 0#2 0) hwf
  have wf1 := Memory.wf_writeWords f.steady (bufAddr 1#2 0) wf0
  have wf2 := Memory.wf_writeWords f.rampUp (bufAddr 2#2 0) wf1
  unfold publish
  obtain rfl | rfl | rfl | rfl : b = 0#2 ∨ b = 1#2 ∨ b = 2#2 ∨ b = 3#2 := by
    revert b; decide
  · rw [memRead_writeWords_other (by decide) (by omega) (by omega),
      memRead_writeWords_other (by decide) (by omega) (by omega),
      memRead_writeWords_other (by decide) (by omega) (by omega),
      memRead_writeWords_same hwf (by omega)]
    rfl
  · rw [memRead_writeWords_other (by decide) (by omega) (by omega),
      memRead_writeWords_other (by decide) (by omega) (by omega),
      memRead_writeWords_same wf0 (by omega)]
    rfl
  · rw [memRead_writeWords_other (by decide) (by omega) (by omega),
      memRead_writeWords_same wf1 (by omega)]
    rfl
  · rw [memRead_writeWords_same wf2 (by omega)]
    rfl

theorem publish_only_buffers {f : Buffers} {m : Memory} (hm : ∀ c ∈ m, IsBufferByte c.1)
    (hlen : ∀ b, (Buffers.words f b).length = Config.bufCap) :
    ∀ c ∈ publish f m, IsBufferByte c.1 :=
  isBufferByte_of_mem_writeWords (isBufferByte_of_mem_writeWords (isBufferByte_of_mem_writeWords
    (isBufferByte_of_mem_writeWords hm (hlen 0#2)) (hlen 1#2)) (hlen 2#2)) (hlen 3#2)

/-! ### The buffers of a compute step -/

theorem calculation_words_le (s : State) : (calculation s).words ≤ Config.bufCap := by
  obtain ⟨-, hcap, -⟩ := calculation_bounds s
  exact hcap

theorem filledBuffers_length (s : State) (b : BitVec 2) :
    (Buffers.words (filledBuffers s) b).length = Config.bufCap :=
  fill_words_length _ (calculation_words_le s) b

/-- After a compute step in modes 1 to 5 every buffer word is the fill's. -/
theorem memRead_computeBuffers {s : State} (hwf : s.mem.wf = true) (b : BitVec 2) {w : Nat}
    (hw : w < Config.bufCap) :
    memRead (computeBuffers s).mem b w = (Buffers.words (filledBuffers s) b).getD w 0#32 :=
  memRead_publish hwf Config.bufCap_le (filledBuffers_length s) b hw

/-! ### The invariant -/

/-- The invariant looks at the memory, FILLED and NWORDS only. -/
theorem BufferInv.of_same {s t : State} (hs : BufferInv s) (mem : t.mem = s.mem)
    (filled : t.filled = s.filled) (nwords : t.nwords = s.nwords) : BufferInv t where
  canonical := by rw [mem]; exact hs.canonical
  only_buffers := by rw [mem]; exact hs.only_buffers
  silent_zero := by rw [mem, filled]; exact hs.silent_zero
  tail_zero := by rw [mem, filled, nwords]; exact hs.tail_zero

theorem hostEffect_bufferInv {i : Instr} {s t : State} (h : HostEffect s i t)
    (hs : BufferInv s) : BufferInv t :=
  have same := hostEffect_sameOutputSide h
  hs.of_same same.mem same.filled same.nwords

/-- A fill brings the invariant about, whatever words the buffers held. -/
theorem computeBuffers_bufferInv {s : State} (hs : BufferInv s) : BufferInv (computeBuffers s) where
  canonical := publish_wf _ hs.canonical
  only_buffers := publish_only_buffers hs.only_buffers (filledBuffers_length s)
  silent_zero := fun _ w hw => by
    rw [memRead_computeBuffers hs.canonical _ hw]
    exact (congrArg (·.getD w 0#32) (fill_silent ..)).trans (silentWords_getD _ w)
  tail_zero := fun _ b w hle hw => by
    rw [(computeBuffers_counts s).1] at hle
    rw [memRead_computeBuffers hs.canonical _ hw]
    exact fill_words_tail _ _ _ b hle

theorem agentEffect_bufferInv {a : AgentStep} {s t : State} (h : AgentEffect s a t)
    (hs : BufferInv s) : BufferInv t := by
  cases h with
  | computesBuffers => exact computeBuffers_bufferInv hs
  | emits => rw [advance_frame]; exact { hs with }
  | choosesBuffer => rw [chooseBuffer_frame]; exact { hs with }
  | _ => exact { hs with }

theorem reset_bufferInv : BufferInv State.reset where
  canonical := reset_mem_wf
  only_buffers := fun _ hc => nomatch hc
  silent_zero := fun h => nomatch h
  tail_zero := fun h => nomatch h

/-- Settles O16: only a fill writes the buffers, and it brings the invariant about. -/
theorem stepKeepsBufferContents : Obligations.StepKeepsBufferContents := fun _ _ =>
  step_preserves (fun _ hs => { hs with }) hostEffect_bufferInv agentEffect_bufferInv
    reset_bufferInv

end Sys2Proof.Machine
end

section
/-! PROOFS. The taper window and the range of the samples (42_waveform_fill.md R244 to R251). -/

namespace Sys2Proof.Machine

/-! ### Shifts -/

/-- Shifting keeps within a bound what was within the bound scaled up. -/
theorem abs_asr_le {v b : Int} {n : Nat} (h : |v| ≤ b * 2 ^ n) : |asr v n| ≤ b := by
  have hpos : (0 : Int) < 2 ^ n := by positivity
  obtain ⟨hlo, hhi⟩ := abs_le.1 h
  exact abs_le.2 ⟨Int.le_ediv_of_mul_le hpos (by linarith), Int.ediv_le_of_le_mul hpos hhi⟩

theorem asr_mono {v v' : Int} (n : Nat) (h : v ≤ v') : asr v n ≤ asr v' n :=
  Int.ediv_le_ediv (by positivity) h

/-! ### The window -/

/-- Between its quarter and its three quarters of a turn a sine of the stated shape falls: it is
symmetric about the quarter, and odd. -/
theorem sineShape_falling {sin : Word → Int} (h : SineShape sin) {u v : Word}
    (hu : 0x40000000#32 ≤ u) (huv : u ≤ v) (hv : v ≤ 0xC0000000#32) : sin v ≤ sin u := by
  have upper : ∀ {u v : Word}, 0x40000000#32 ≤ u → u ≤ v → v ≤ 0x80000000#32 → sin v ≤ sin u := by
    intro u v hu huv hv
    rw [← h.quarter_symmetric u (by bv_omega), ← h.quarter_symmetric v hv]
    exact h.rising _ _ (by bv_omega) (by bv_omega)
  have lower : ∀ {u v : Word}, 0x80000000#32 ≤ u → u ≤ v → v ≤ 0xC0000000#32 → sin v ≤ sin u := by
    intro u v hu huv hv
    have := upper (u := -v) (v := -u) (by bv_omega) (by bv_omega) (by bv_omega)
    rw [h.odd, h.odd] at this
    omega
  by_cases hv' : v ≤ 0x80000000#32
  · exact upper hu huv hv'
  by_cases hu' : u ≤ 0x80000000#32
  · exact (lower (BitVec.le_refl _) (by bv_omega) hv).trans (upper hu hu' (BitVec.le_refl _))
  · exact lower (by bv_omega) huv hv

/-- Half a turn at the last sample (R249). -/
theorem windowPhase_last {n : Nat} (hn : 16 ≤ n) : windowPhase n (n - 1) = 2 ^ 31 := by
  rw [windowPhase, Nat.mul_div_cancel_left _ (by omega)]

theorem windowPhase_mono (n : Nat) {i j : Nat} (h : i ≤ j) : windowPhase n i ≤ windowPhase n j :=
  Nat.div_le_div_right (Nat.mul_le_mul_right _ h)

/-- Settles O55: the window is half of what the sine has fallen since its quarter turn. -/
theorem taperWindowRises : Obligations.TaperWindowRises := by
  intro sin h n hn
  refine ⟨?_, ?_, fun i j hij hj => asr_mono 1 (Int.sub_le_sub_left ?_ _)⟩
  · simp only [window, windowPhase, Nat.zero_mul, Nat.zero_div, Nat.zero_add]
    rw [show BitVec.ofNat 32 (2 ^ 30) = 0x40000000#32 from rfl, h.at_quarter]
    rfl
  · rw [window, windowPhase_last hn,
      show BitVec.ofNat 32 (2 ^ 31 + 2 ^ 30) = 0xC0000000#32 from rfl, h.at_three_quarters]
    rfl
  · have hi := windowPhase_mono n hij
    have hlast : windowPhase n j ≤ 2 ^ 31 := (windowPhase_mono n hj).trans (windowPhase_last hn).le
    exact sineShape_falling h (by bv_omega) (by bv_omega) (by bv_omega)

/-! ### The samples -/

/-- The window of a sine in its unit range lies between 0 and 1.0. -/
theorem window_bounds {sin : Word → Int} (h : ∀ u, |sin u| ≤ 2 ^ 30) (n i : Nat) :
    0 ≤ window sin n i ∧ window sin n i ≤ 2 ^ 30 := by
  have := abs_le.1 (h (BitVec.ofNat 32 (windowPhase n i + 2 ^ 30)))
  unfold window asr q30
  omega

/-- Tapering by a factor of at most 1.0 leaves no larger a sample (R250, R251). -/
theorem abs_tapered_le {x b w : Int} (hx : |x| ≤ b) (h0 : 0 ≤ w) (h1 : w ≤ 2 ^ 30) :
    |asr (x * w) 30| ≤ b := by
  refine abs_asr_le ?_
  rw [abs_mul, abs_of_nonneg h0]
  exact mul_le_mul hx h1 h0 ((abs_nonneg x).trans hx)

/-- 2.0 of the fundamental and 0.5 of the harmonic (R248). -/
theorem abs_idealSample_le {sin : Word → Int} {amp : BitVec 18} {hd3amp : Word}
    (hsin : ∀ u, |sin u| ≤ 2 ^ 30) (hamp : amp.toNat ≤ 0x20000) (hhd3 : |hd3amp.toInt| ≤ 0x8000)
    (hd3ph θ : Word) : |idealSample sin amp hd3amp hd3ph θ| ≤ 0x28000 := by
  refine abs_asr_le ?_
  have fundamental : |(amp.toNat : Int) * sin θ| ≤ 0x20000 * 2 ^ 30 := by
    rw [abs_mul, Nat.abs_cast]
    exact mul_le_mul (by exact_mod_cast hamp) (hsin θ) (abs_nonneg _) (by omega)
  have harmonic : |hd3amp.toInt * sin (harmonicPhase θ hd3ph)| ≤ 0x8000 * 2 ^ 30 := by
    rw [abs_mul]
    exact mul_le_mul hhd3 (hsin _) (abs_nonneg _) (by omega)
  calc _ ≤ _ := abs_add_le _ _
    _ ≤ 0x20000 * 2 ^ 30 + 0x8000 * 2 ^ 30 := add_le_add fundamental harmonic
    _ = 0x28000 * 2 ^ 30 := by norm_num

/-- Settles O56: the ramps taper the ideal sample by the window. -/
theorem samplesStayInRange : Obligations.SamplesStayInRange := by
  intro sin amp hd3amp hd3ph θ n i hsin hamp hhd3 x
  have hx : |x| ≤ 0x28000 := abs_idealSample_le hsin hamp hhd3 hd3ph θ
  obtain ⟨hup0, hup1⟩ := window_bounds hsin n i
  obtain ⟨hdown0, hdown1⟩ := window_bounds hsin n (n - 1 - i)
  exact ⟨hx, abs_tapered_le hx hup0 hup1, abs_tapered_le hx hdown0 hdown1⟩

end Sys2Proof.Machine
end

section
/-! PROOFS. The Taylor polynomials of sine and cosine lie alternately above and below them. This
bounds the error of the one the reference sine uses (42_waveform_fill.md R245, log 9), and makes its
derivative at least the cosine, so that it rises on the first quadrant. -/

namespace Sys2Proof.Machine

open Real Nat Finset

/-! ### Taylor polynomials of sine and cosine -/

/-- The first `n` terms of the sine series. -/
noncomputable def sineTaylor (n : ℕ) (x : ℝ) : ℝ :=
  ∑ j ∈ range n, (-1) ^ j * x ^ (2 * j + 1) / (2 * j + 1)!

/-- The first `n` terms of the cosine series. -/
noncomputable def cosineTaylor (n : ℕ) (x : ℝ) : ℝ :=
  ∑ j ∈ range n, (-1) ^ j * x ^ (2 * j) / (2 * j)!

theorem sineTaylor_succ (n : ℕ) (x : ℝ) :
    sineTaylor (n + 1) x = sineTaylor n x + (-1) ^ n * x ^ (2 * n + 1) / (2 * n + 1)! :=
  sum_range_succ _ _

theorem cosineTaylor_succ (n : ℕ) (x : ℝ) :
    cosineTaylor (n + 1) x = cosineTaylor n x + (-1) ^ n * x ^ (2 * n) / (2 * n)! :=
  sum_range_succ _ _

theorem sineTaylor_no_terms : sineTaylor 0 = fun _ => 0 := by
  funext x
  simp [sineTaylor]

theorem cosineTaylor_one_term : cosineTaylor 1 = fun _ => 1 := by
  funext x
  simp [cosineTaylor]

theorem sineTaylor_at_zero (n : ℕ) : sineTaylor n 0 = 0 := by
  simp [sineTaylor]

theorem cosineTaylor_at_zero (n : ℕ) : cosineTaylor (n + 1) 0 = 1 := by
  simp [cosineTaylor, sum_range_succ']

/-- A power over its factorial has the one before it as derivative. -/
theorem hasDerivAt_pow_div_factorial (n : ℕ) (x : ℝ) :
    HasDerivAt (fun y : ℝ => y ^ (n + 1) / (n + 1)!) (x ^ n / n !) x := by
  refine ((hasDerivAt_pow (n + 1) x).div_const ((n + 1)! : ℝ)).congr_deriv ?_
  have : (n ! : ℝ) ≠ 0 := by positivity
  rw [factorial_succ, add_tsub_cancel_right]
  push_cast
  field_simp

theorem hasDerivAt_sineTaylor (n : ℕ) (x : ℝ) :
    HasDerivAt (sineTaylor n) (cosineTaylor n x) x := by
  induction n with
  | zero =>
    rw [sineTaylor_no_terms, show cosineTaylor 0 x = 0 from sum_range_zero _]
    exact hasDerivAt_const x 0
  | succ n ih =>
    have hterm := (hasDerivAt_pow_div_factorial (2 * n) x).const_mul ((-1 : ℝ) ^ n)
    rw [cosineTaylor_succ, mul_div_assoc]
    refine (ih.add hterm).congr_of_eventuallyEq (.of_forall fun y => ?_)
    simp [sineTaylor_succ, mul_div_assoc]

theorem hasDerivAt_cosineTaylor (n : ℕ) (x : ℝ) :
    HasDerivAt (cosineTaylor (n + 1)) (-sineTaylor n x) x := by
  induction n with
  | zero =>
    rw [cosineTaylor_one_term, sineTaylor_no_terms, neg_zero]
    exact hasDerivAt_const x 1
  | succ n ih =>
    have hterm := (hasDerivAt_pow_div_factorial (2 * n + 1) x).const_mul ((-1 : ℝ) ^ (n + 1))
    have hsum : -sineTaylor (n + 1) x =
        -sineTaylor n x + (-1) ^ (n + 1) * (x ^ (2 * n + 1) / (2 * n + 1)!) := by
      rw [sineTaylor_succ, pow_succ]
      ring
    rw [hsum]
    refine (ih.add hterm).congr_of_eventuallyEq (.of_forall fun y => ?_)
    simp [cosineTaylor_succ (n + 1), mul_div_assoc, mul_add, add_assoc]

theorem nonneg_of_hasDerivAt_nonneg {f f' : ℝ → ℝ} (h0 : f 0 = 0)
    (hf : ∀ x, HasDerivAt f (f' x) x) (hf' : ∀ x, 0 ≤ x → 0 ≤ f' x) {x : ℝ} (hx : 0 ≤ x) :
    0 ≤ f x := by
  have hmono : MonotoneOn f (Set.Ici 0) := monotoneOn_of_deriv_nonneg (convex_Ici 0)
    (fun y _ => (hf y).continuousAt.continuousWithinAt)
    (fun y _ => (hf y).differentiableAt.differentiableWithinAt)
    (fun y hy => (hf y).deriv ▸ hf' y (interior_subset hy))
  exact h0 ▸ hmono Set.self_mem_Ici hx hx

/-- The polynomials with an odd number of terms lie above, those with an even number below. -/
theorem taylor_alternates (n : ℕ) :
    (∀ x, 0 ≤ x → 0 ≤ (-1) ^ (n + 1) * (cos x - cosineTaylor (n + 1) x)) ∧
      ∀ x, 0 ≤ x → 0 ≤ (-1) ^ (n + 1) * (sin x - sineTaylor (n + 1) x) := by
  have integrate : ∀ m, (∀ x, 0 ≤ x → 0 ≤ (-1) ^ m * (cos x - cosineTaylor m x)) →
      ∀ x, 0 ≤ x → 0 ≤ (-1) ^ m * (sin x - sineTaylor m x) := fun m h x hx =>
    nonneg_of_hasDerivAt_nonneg (f := fun x => (-1) ^ m * (sin x - sineTaylor m x))
      (by simp [sineTaylor_at_zero])
      (fun x => ((hasDerivAt_sin x).sub (hasDerivAt_sineTaylor m x)).const_mul _) h hx
  induction n with
  | zero =>
    have hcos : ∀ x, 0 ≤ x → 0 ≤ (-1) ^ (0 + 1) * (cos x - cosineTaylor (0 + 1) x) := by
      intro x _
      simpa [cosineTaylor] using cos_le_one x
    exact ⟨hcos, integrate 1 hcos⟩
  | succ n ih =>
    have hcos : ∀ x, 0 ≤ x → 0 ≤ (-1) ^ (n + 2) * (cos x - cosineTaylor (n + 2) x) := fun x hx =>
      nonneg_of_hasDerivAt_nonneg
        (f := fun x => (-1) ^ (n + 2) * (cos x - cosineTaylor (n + 2) x))
        (by simp [cosineTaylor_at_zero])
        (fun x => ((hasDerivAt_cos x).sub (hasDerivAt_cosineTaylor (n + 1) x)).const_mul _)
        (fun x hx => by
          have h := ih.2 x hx
          rw [pow_succ]
          linarith) hx
    exact ⟨hcos, integrate (n + 2) hcos⟩

/-- The error is less than the first term left out. -/
theorem abs_sineTaylor_sub_sin_le {x : ℝ} (h0 : 0 ≤ x) (h2 : x ≤ 2) :
    |sineTaylor 17 x - sin x| ≤ 1 / 2 ^ 30 := by
  have hup := (taylor_alternates 16).2 x h0
  have hlow := (taylor_alternates 17).2 x h0
  rw [sineTaylor_succ 17] at hlow
  have hterm : x ^ 35 / (35)! ≤ 1 / 2 ^ 30 := by
    have hpow : x ^ 35 ≤ 2 ^ 35 := pow_le_pow_left₀ h0 h2 35
    have hfact : ((35)! : ℝ) = 10333147966386144929666651337523200000000 := by
      norm_num [factorial]
    rw [hfact, div_le_div_iff₀ (by norm_num) (by norm_num)]
    linarith
  norm_num at hup hlow hterm ⊢
  rw [abs_le]
  constructor <;> linarith

/-- Its derivative has 17 terms, so it is at least the cosine. -/
theorem sineTaylor_monotoneOn : MonotoneOn (sineTaylor 17) (Set.Icc 0 (π / 2)) := by
  refine monotoneOn_of_deriv_nonneg (convex_Icc 0 (π / 2))
    (fun y _ => (hasDerivAt_sineTaylor 17 y).continuousAt.continuousWithinAt)
    (fun y _ => (hasDerivAt_sineTaylor 17 y).differentiableAt.differentiableWithinAt)
    (fun y hy => ?_)
  obtain ⟨h0, h1⟩ := interior_subset hy
  have habove := (taylor_alternates 16).1 y h0
  have hcos := cos_nonneg_of_mem_Icc ⟨by linarith, h1⟩
  rw [(hasDerivAt_sineTaylor 17 y).deriv]
  norm_num at habove
  linarith

end Sys2Proof.Machine
end

section
/-! PROOFS. The reference sine is admissible (42_waveform_fill.md R244, R245; log 9). Its nested
series is the Taylor polynomial of degree 33 of the sine, at an angle that is the turn value's but
for the 41st digit of pi; the other three quadrants follow by symmetry. -/

namespace Sys2Proof.Machine

open Real Nat Finset

/-! ### The nested series -/

theorem sineNest_den_pos (xn : Int) {xd : Int} (hxd : 0 < xd) (n : ℕ) :
    ∀ k, 0 < k → 0 < (sineNest xn xd n k).2 := by
  induction n with
  | zero => exact fun _ _ => Int.one_pos
  | succ n ih =>
    intro k hk
    have hnext := ih (k + 1) k.succ_pos
    have hk' : (0 : Int) < ((2 * k) * (2 * k + 1) : ℕ) := by positivity
    exact mul_pos (mul_pos (mul_pos hxd hxd) hk') hnext

/-- The fraction of the nested form, as a real number. -/
noncomputable def nestValue (xn xd : Int) (n k : ℕ) : ℝ :=
  ((sineNest xn xd n k).1 : ℝ) / (sineNest xn xd n k).2

theorem nestValue_succ (xn : Int) {xd : Int} (hxd : 0 < xd) (n : ℕ) {k : ℕ} (hk : 0 < k) :
    nestValue xn xd (n + 1) k =
      1 - ((xn : ℝ) / xd) ^ 2 / ((2 * k) * (2 * k + 1)) * nestValue xn xd n (k + 1) := by
  have hden : ((sineNest xn xd n (k + 1)).2 : ℝ) ≠ 0 := by
    exact_mod_cast (sineNest_den_pos xn hxd n (k + 1) k.succ_pos).ne'
  have hxd' : (xd : ℝ) ≠ 0 := by exact_mod_cast hxd.ne'
  have hk' : (k : ℝ) ≠ 0 := by exact_mod_cast hk.ne'
  simp only [nestValue, sineNest]
  push_cast
  field_simp

/-- One nesting takes the next term of the series off. -/
theorem term_mul_nestValue_succ (xn : Int) {xd : Int} (hxd : 0 < xd) (n k : ℕ) :
    ((xn : ℝ) / xd) ^ (2 * k + 1) / (2 * k + 1)! * nestValue xn xd (n + 1) (k + 1) =
      ((xn : ℝ) / xd) ^ (2 * k + 1) / (2 * k + 1)! -
        ((xn : ℝ) / xd) ^ (2 * (k + 1) + 1) / (2 * (k + 1) + 1)! *
          nestValue xn xd n (k + 1 + 1) := by
  have hpos : ((2 * k + 1)! : ℝ) ≠ 0 := by positivity
  have hfact : ((2 * (k + 1) + 1)! : ℝ) = (2 * (k + 1)) * (2 * (k + 1) + 1) * (2 * k + 1)! := by
    rw [show 2 * (k + 1) + 1 = 2 * k + 1 + 1 + 1 by ring, factorial_succ, factorial_succ]
    push_cast
    ring
  rw [nestValue_succ xn hxd n k.succ_pos, hfact]
  generalize (xn : ℝ) / xd = x
  push_cast
  field_simp
  ring

/-- From index `k + 1` on the nested form sums the terms of the series from index `k` on. -/
theorem term_mul_nestValue_eq_sum (xn : Int) {xd : Int} (hxd : 0 < xd) (n : ℕ) : ∀ k : ℕ,
    ((xn : ℝ) / xd) ^ (2 * k + 1) / (2 * k + 1)! * nestValue xn xd n (k + 1) =
      ∑ j ∈ range (n + 1),
        (-1) ^ j * ((xn : ℝ) / xd) ^ (2 * (k + j) + 1) / (2 * (k + j) + 1)! := by
  induction n with
  | zero => intro k; simp [nestValue, sineNest]
  | succ n ih =>
    intro k
    rw [term_mul_nestValue_succ xn hxd, ih (k + 1), sum_range_succ' _ (n + 1), sub_eq_neg_add,
      ← sum_neg_distrib]
    refine congrArg₂ _ (sum_congr rfl fun j _ => ?_) (by simp)
    rw [show k + 1 + j = k + (j + 1) by ring, pow_succ (-1 : ℝ) j]
    ring

/-- With 16 nestings the series has 17 terms. -/
theorem mul_nestValue (xn : Int) {xd : Int} (hxd : 0 < xd) :
    (xn : ℝ) / xd * nestValue xn xd 16 1 = sineTaylor 17 (xn / xd) := by
  simpa [sineTaylor] using term_mul_nestValue_eq_sum xn hxd 16 0

/-! ### The first quadrant -/

theorem roundDiv_eq_round (num : Int) {den : Int} (h : 0 < den) :
    roundDiv num den = round ((num : ℝ) / den) := by
  have hden : (den : ℝ) ≠ 0 := by exact_mod_cast h.ne'
  have hhalf : (num : ℝ) / den + 1 / 2 = ((2 * num + den : Int) : ℝ) / ((2 * den : Int) : ℝ) := by
    push_cast
    field_simp
  rw [round_eq, hhalf, Int.floor_div_cast_of_nonneg (by omega), Int.floor_intCast, roundDiv]

theorem round_mono {x y : ℝ} (h : x ≤ y) : round x ≤ round y := by
  rw [round_eq, round_eq]
  exact Int.floor_mono (by linarith)

/-- The model's angle of the turn value `v` of the first quadrant, in radians. -/
noncomputable def quadrantAngle (v : ℕ) : ℝ :=
  ((piNumerator * v : Int) : ℝ) / ((10 ^ 40 * 2 ^ 31 : Int) : ℝ)

/-- The reference sine rounds the Taylor polynomial and holds it in its range. -/
theorem sineQuadrant_eq (v : ℕ) :
    sineQuadrant v = max 0 (min (round (2 ^ 30 * sineTaylor 17 (quadrantAngle v))) q30) := by
  have hxd : (0 : Int) < 10 ^ 40 * 2 ^ 31 := by norm_num
  rw [quadrantAngle, ← mul_nestValue _ hxd, nestValue, sineQuadrant,
    roundDiv_eq_round _ (mul_pos hxd (sineNest_den_pos _ hxd 16 1 Nat.one_pos))]
  congr 3
  rw [q30]
  push_cast
  ring

theorem quadrantAngle_eq (v : ℕ) : quadrantAngle v = piNumerator / 10 ^ 40 * (v / 2 ^ 31) := by
  unfold quadrantAngle
  push_cast
  ring

theorem piNumerator_cast : (piNumerator : ℝ) = 31415926535897932384626433832795028841972 := by
  norm_num [piNumerator]

theorem quadrantAngle_mono {u v : ℕ} (h : u ≤ v) : quadrantAngle u ≤ quadrantAngle v := by
  rw [quadrantAngle_eq, quadrantAngle_eq, piNumerator_cast]
  gcongr

theorem quadrantAngle_nonneg (v : ℕ) : 0 ≤ quadrantAngle v := by
  rw [quadrantAngle_eq, piNumerator_cast]
  positivity

/-- Below the quarter turn the model's angle is below the right angle, although its pi is above
pi. -/
theorem quadrantAngle_le_of_lt {v : ℕ} (h : v < 2 ^ 30) : quadrantAngle v ≤ π / 2 := by
  have hv : (v : ℝ) + 1 ≤ 2 ^ 30 := by exact_mod_cast h
  have hpi := pi_gt_d20
  rw [quadrantAngle_eq, piNumerator_cast]
  linarith

/-- The model's angle is nearly the true one. -/
theorem abs_quadrantAngle_sub_le {v : ℕ} (h : v ≤ 2 ^ 30) :
    |quadrantAngle v - 2 * π * v / 2 ^ 32| ≤ 1 / 2 ^ 30 := by
  have hv : (v : ℝ) ≤ 2 ^ 30 := by exact_mod_cast h
  have hpi : |(piNumerator : ℝ) / 10 ^ 40 - π| ≤ 1 / 2 ^ 30 := by
    rw [piNumerator_cast, abs_le]
    constructor <;> linarith [pi_gt_d20, pi_lt_d20]
  have hfactor : quadrantAngle v - 2 * π * v / 2 ^ 32 =
      ((piNumerator : ℝ) / 10 ^ 40 - π) * (v / 2 ^ 31) := by
    rw [quadrantAngle_eq]
    ring
  rw [hfactor, abs_mul, abs_of_nonneg (by positivity : (0 : ℝ) ≤ v / 2 ^ 31)]
  exact (mul_le_of_le_one_right (abs_nonneg _) (by linarith)).trans hpi

theorem sineQuadrant_zero : sineQuadrant 0 = 0 := rfl

theorem sineQuadrant_quarter : sineQuadrant (2 ^ 30) = 2 ^ 30 := rfl

/-- The polynomial rises up to the right angle; the quarter turn itself, which the model's angle
puts just above the right angle, has the greatest value there is. -/
theorem sineQuadrant_mono {u v : ℕ} (huv : u ≤ v) (hv : v ≤ 2 ^ 30) :
    sineQuadrant u ≤ sineQuadrant v := by
  obtain rfl | hlt := hv.eq_or_lt
  · rw [sineQuadrant_quarter]
    exact (sineQuadrant_bounds u).2
  · have hangle := quadrantAngle_mono huv
    have hright := quadrantAngle_le_of_lt hlt
    have hpoly := sineTaylor_monotoneOn ⟨quadrantAngle_nonneg u, hangle.trans hright⟩
      ⟨quadrantAngle_nonneg v, hright⟩ hangle
    rw [sineQuadrant_eq, sineQuadrant_eq]
    exact max_le_max_left 0 (min_le_min_right q30 (round_mono (by linarith)))

/-- Holding a value in a range brings it no farther from a target in the range. -/
theorem abs_clamp_sub_le {q z : Int} {t c : ℝ} (ht0 : 0 ≤ t) (htq : t ≤ q) (h : |(z : ℝ) - t| ≤ c) :
    |((max 0 (min z q) : Int) : ℝ) - t| ≤ c := by
  push_cast
  calc |max 0 (min (z : ℝ) q) - t| = |max 0 (min (z : ℝ) q) - max 0 (min t q)| := by
        rw [min_eq_left htq, max_eq_right ht0]
    _ ≤ |min (z : ℝ) q - min t q| := by
        simpa [max_comm] using abs_max_sub_max_le_abs (min (z : ℝ) q) (min t q) 0
    _ ≤ |(z : ℝ) - t| := by simpa using abs_min_sub_min_le_max (z : ℝ) q t q
    _ ≤ c := h

/-- `2^30 * sin(2*pi*v/2^32)`, the sine that R244 (e) compares with. -/
noncomputable def turnSine (v : ℝ) : ℝ := 2 ^ 30 * sin (2 * π * v / 2 ^ 32)

/-- Property (e) of R244 on the first quadrant: the errors of the rounding, of the series and of
the angle. -/
theorem sineQuadrant_accurate {v : ℕ} (h : v ≤ 2 ^ 30) :
    |(sineQuadrant v : ℝ) - turnSine v| ≤ 4096 := by
  have hv : (v : ℝ) ≤ 2 ^ 30 := by exact_mod_cast h
  have hangle := abs_quadrantAngle_sub_le h
  set θ := 2 * π * v / 2 ^ 32 with hθ
  have hθ0 : 0 ≤ θ := by positivity
  have hθ1 : θ ≤ π / 2 := by
    rw [hθ, div_le_iff₀ (by norm_num)]
    nlinarith [pi_pos]
  have hsmall : quadrantAngle v ≤ 2 := by
    have := (abs_le.1 hangle).2
    linarith [pi_lt_d2]
  have hseries := abs_sineTaylor_sub_sin_le (quadrantAngle_nonneg v) hsmall
  have hsin := (abs_sin_sub_sin_le (quadrantAngle v) θ).trans hangle
  have hround := abs_sub_round (2 ^ 30 * sineTaylor 17 (quadrantAngle v))
  have h0 : 0 ≤ turnSine v :=
    mul_nonneg (by norm_num) (sin_nonneg_of_nonneg_of_le_pi hθ0 (by linarith [pi_pos]))
  have h1 : turnSine v ≤ (q30 : Int) := by
    have := sin_le_one θ
    rw [turnSine, ← hθ, q30]
    push_cast
    linarith
  rw [sineQuadrant_eq]
  refine abs_clamp_sub_le h0 h1 ?_
  generalize round (2 ^ 30 * sineTaylor 17 (quadrantAngle v)) = z at hround ⊢
  rw [turnSine, ← hθ]
  obtain ⟨hseries0, hseries1⟩ := abs_le.1 hseries
  obtain ⟨hsin0, hsin1⟩ := abs_le.1 hsin
  obtain ⟨hround0, hround1⟩ := abs_le.1 hround
  norm_num at hseries0 hseries1 hsin0 hsin1
  rw [abs_le]
  constructor <;> linarith

/-! ### The four quadrants -/

theorem turnSine_half_sub (v : ℝ) : turnSine (2 ^ 31 - v) = turnSine v := by
  rw [turnSine, turnSine, ← sin_pi_sub]
  ring_nf

theorem turnSine_sub_half (v : ℝ) : turnSine (v - 2 ^ 31) = -turnSine v := by
  rw [turnSine, turnSine, ← mul_neg, ← sin_sub_pi]
  ring_nf

theorem turnSine_full_sub (v : ℝ) : turnSine (2 ^ 32 - v) = -turnSine v := by
  rw [turnSine, turnSine, ← mul_neg, ← sin_two_pi_sub]
  ring_nf

section

variable {u : Word}

theorem sineRef_first (h : u.toNat ≤ 2 ^ 30) : sineRef u = sineQuadrant u.toNat := by
  simp only [sineRef, if_pos h]

theorem sineRef_second (h : 2 ^ 30 ≤ u.toNat) (h' : u.toNat ≤ 2 ^ 31) :
    sineRef u = sineQuadrant (2 ^ 31 - u.toNat) := by
  obtain heq | hlt := h.eq_or_lt
  · rw [sineRef_first heq.ge]
    exact congrArg sineQuadrant (by omega)
  · simp only [sineRef, if_neg (not_le.2 hlt), if_pos h']

theorem sineRef_third (h : 2 ^ 31 ≤ u.toNat) (h' : u.toNat ≤ 3 * 2 ^ 30) :
    sineRef u = -sineQuadrant (u.toNat - 2 ^ 31) := by
  obtain heq | hlt := h.eq_or_lt
  · rw [sineRef_second (by omega) heq.ge, ← heq, Nat.sub_self, sineQuadrant_zero, neg_zero]
  · simp only [sineRef, if_neg (show ¬ u.toNat ≤ 2 ^ 30 by omega), if_neg (not_le.2 hlt), if_pos h']

theorem sineRef_fourth (h : 3 * 2 ^ 30 ≤ u.toNat) :
    sineRef u = -sineQuadrant (2 ^ 32 - u.toNat) := by
  obtain heq | hlt := h.eq_or_lt
  · rw [sineRef_third (by omega) heq.ge]
    exact congrArg (-sineQuadrant ·) (by omega)
  · simp only [sineRef, if_neg (show ¬ u.toNat ≤ 2 ^ 30 by omega),
      if_neg (show ¬ u.toNat ≤ 2 ^ 31 by omega), if_neg (not_le.2 hlt)]

/-- The quadrants, closed at both ends, as the four equations of `sineRef` take them. -/
theorem quadrant_cases (u : Word) :
    u.toNat ≤ 2 ^ 30 ∨ (2 ^ 30 ≤ u.toNat ∧ u.toNat ≤ 2 ^ 31) ∨
      (2 ^ 31 ≤ u.toNat ∧ u.toNat ≤ 3 * 2 ^ 30) ∨ 3 * 2 ^ 30 ≤ u.toNat := by
  omega

theorem sineRef_zero : sineRef 0#32 = 0 :=
  (sineRef_first (by decide)).trans sineQuadrant_zero

theorem sineRef_neg (u : Word) : sineRef (-u) = -sineRef u := by
  by_cases h0 : u = 0#32
  · rw [h0, BitVec.neg_zero, sineRef_zero, neg_zero]
  have hpos : u.toNat ≠ 0 := fun h => h0 (BitVec.eq_of_toNat_eq h)
  have hlt := u.isLt
  have hneg : (-u).toNat = 2 ^ 32 - u.toNat := by bv_omega
  obtain h | ⟨h, h'⟩ | ⟨h, h'⟩ | h := quadrant_cases u
  · rw [sineRef_first h, sineRef_fourth (by omega), hneg, Nat.sub_sub_self hlt.le]
  · rw [sineRef_second h h', sineRef_third (by omega) (by omega), hneg,
      show 2 ^ 32 - u.toNat - 2 ^ 31 = 2 ^ 31 - u.toNat by omega]
  · rw [sineRef_third h h', sineRef_second (by omega) (by omega), hneg, neg_neg,
      show 2 ^ 31 - (2 ^ 32 - u.toNat) = u.toNat - 2 ^ 31 by omega]
  · rw [sineRef_fourth h, sineRef_first (by omega), hneg, neg_neg]

theorem sineRef_half_sub (h : u ≤ 0x80000000#32) : sineRef (0x80000000#32 - u) = sineRef u := by
  have hu : u.toNat ≤ 2 ^ 31 := h
  have hsub : (0x80000000#32 - u).toNat = 2 ^ 31 - u.toNat := by bv_omega
  obtain hq | hq := le_total u.toNat (2 ^ 30)
  · rw [sineRef_first hq, sineRef_second (by omega) (by omega), hsub, Nat.sub_sub_self hu]
  · rw [sineRef_second hq hu, sineRef_first (by omega), hsub]

end

theorem sineRef_accurate (u : Word) : |(sineRef u : ℝ) - turnSine u.toNat| ≤ 4096 := by
  have hlt := u.isLt
  have flip : ∀ a t : ℝ, |-a - t| = |a - -t| := fun a t => by rw [← abs_neg]; ring_nf
  obtain h | ⟨h, h'⟩ | ⟨h, h'⟩ | h := quadrant_cases u
  · rw [sineRef_first h]
    exact sineQuadrant_accurate h
  · have hacc := sineQuadrant_accurate (v := 2 ^ 31 - u.toNat) (by omega)
    rw [Nat.cast_sub h', Nat.cast_pow, Nat.cast_ofNat, turnSine_half_sub] at hacc
    rwa [sineRef_second h h']
  · have hacc := sineQuadrant_accurate (v := u.toNat - 2 ^ 31) (by omega)
    rw [Nat.cast_sub h, Nat.cast_pow, Nat.cast_ofNat, turnSine_sub_half] at hacc
    rwa [sineRef_third h h', Int.cast_neg, flip]
  · have hacc := sineQuadrant_accurate (v := 2 ^ 32 - u.toNat) (by omega)
    rw [Nat.cast_sub hlt.le, Nat.cast_pow, Nat.cast_ofNat, turnSine_full_sub] at hacc
    rwa [sineRef_fourth h, Int.cast_neg, flip]

/-- Settles O59: the first quadrant's facts, carried to the others by symmetry. -/
theorem referenceSineIsAdmissible : Obligations.ReferenceSineIsAdmissible where
  at_zero := sineRef_zero
  at_quarter := (sineRef_first (by decide)).trans sineQuadrant_quarter
  at_half := (sineRef_second (by decide) (by decide)).trans sineQuadrant_zero
  at_three_quarters :=
    (sineRef_third (by decide) (by decide)).trans (congrArg Neg.neg sineQuadrant_quarter)
  odd := sineRef_neg
  quarter_symmetric := fun _ => sineRef_half_sub
  rising := fun u v huv hv => by
    have hv' : v.toNat ≤ 2 ^ 30 := hv
    rw [sineRef_first (le_trans huv hv'), sineRef_first hv']
    exact sineQuadrant_mono huv hv'
  accurate := sineRef_accurate

end Sys2Proof.Machine
end

section
/-! PROOFS. The engine and the output FSM (43_output_fsm.md R300 to R308, R321 to R325): their
steps as whole next states, the keying rule, and the playing of a whole buffer, by induction on the
samples still to come. -/

namespace Sys2Proof.Machine

/-! ### The keying rule -/

/-- A step that starts no buffer and leaves STATE alone keeps the keying rule. -/
theorem KeyingInv.of_still_playing {s t : State} (hs : KeyingInv s)
    (active : t.engActive = true → s.engActive = true) (buf : t.engBuf = s.engBuf)
    (state : t.outputState = s.outputState) : KeyingInv t := by
  intro ht
  rw [buf, state]
  exact hs (active ht)

/-- The advance starts no engine: it leaves ENG_ACTIVE alone or clears it (R323). -/
theorem engActive_of_advance {s : State} (h : (advance s).engActive = true) :
    s.engActive = true := by
  obtain ⟨-, hadv⟩ | ⟨-, -, hadv⟩ | ⟨-, -, hadv⟩ := advance_cases s <;> rw [hadv] at h
  · exact h
  · exact h
  · cases h

theorem advance_keyingInv {s : State} (hs : KeyingInv s) : KeyingInv (advance s) :=
  hs.of_still_playing engActive_of_advance (by rw [advance_frame]) (advance_outputState s)

/-- Each choice of the FSM meets the rule, whatever played before: it sets ENG_BUF and STATE
together (R303 to R306). -/
theorem chooseBuffer_keyingInv (s : State) : KeyingInv (chooseBuffer s) := by
  intro _
  obtain ⟨-, hst, h⟩ | ⟨-, -, h⟩ | ⟨-, hst, h⟩ | ⟨-, -, h⟩ := chooseBuffer_cases s <;> rw [h]
  · exact iff_of_true (.inl rfl) hst
  · exact iff_of_true (.inr rfl) rfl
  · simp [hst]
  · simp

/-- The re-arm starts steady in Transmitting and silent in Silent (44_controller.md R357). -/
theorem rearmBuffer_transmits_iff (o : OutputState) :
    (rearmBuffer o = 1#2 ∨ rearmBuffer o = 2#2) ↔ o = .transmitting := by
  cases o <;> decide

theorem hostEffect_keyingInv {i : Instr} {s t : State} (h : HostEffect s i t)
    (hs : KeyingInv s) : KeyingInv t :=
  have same := hostEffect_sameOutputSide h
  hs.of_still_playing (fun ht => same.engActive ▸ ht) same.engBuf same.outputState

theorem agentEffect_keyingInv {a : AgentStep} {s t : State} (h : AgentEffect s a t)
    (hs : KeyingInv s) : KeyingInv t := by
  cases h with
  | emits => exact advance_keyingInv hs
  | aborts => exact fun idle => nomatch idle
  | choosesBuffer => exact chooseBuffer_keyingInv _
  | computesBuffers => exact fun _ => rearmBuffer_transmits_iff s.outputState
  | _ => exact hs

/-- Settles O13: only the FSM's choice and the re-arm start a buffer, and both follow STATE. -/
theorem stepKeepsKeyingRule : Obligations.StepKeepsKeyingRule := fun _ _ =>
  step_preserves (fun _ hs => hs) hostEffect_keyingInv agentEffect_keyingInv
    (fun idle => nomatch idle)

/-! ### The FSM step -/

/-- Settles O46: the gate of R302, then the four rows of the choice. -/
theorem fsmStepChoosesTheBuffer : Obligations.FsmStepChoosesTheBuffer := by
  intro s rest hin pending acknowledged armed
  rw [step_of_agent_turn hin, agentStep]
  obtain ⟨not_pending, -⟩ | ⟨-, shut, h⟩ | ⟨-, harmed, idle, h⟩ :=
    fsmStep_cases (withInput rest s) <;> congr 1
  · exact absurd pending (by simp [show s.irqPend = false from not_pending])
  · have closed : ¬(s.armed = true ∧ s.engActive = false) := by
      simpa [imp_iff_not_or] using shut
    rw [h, if_neg closed]
    rfl
  · have gate : s.armed = true ∧ s.engActive = false := ⟨harmed, idle⟩
    rw [h, if_pos gate]
    obtain ⟨tx, st, hc⟩ | ⟨tx, st, hc⟩ | ⟨tx, st, hc⟩ | ⟨tx, st, hc⟩ :=
      chooseBuffer_cases { withInput rest s with irqPend := false } <;>
    · rw [hc, show s.txen = _ from tx, show s.outputState = _ from st]
      rfl

/-! ### The engine's steps -/

/-- ENG_EMIT of an active engine at an existing word (R321). -/
theorem step_of_emission {s : State} {rest : List Turn} (hin : s.input = .agent .engEmit :: rest)
    (active : s.engActive = true) (word : s.engWord.toNat < Config.bufCap) :
    step s =
      .next (advance (emit (slotPair (memRead s.mem s.engBuf s.engWord.toNat) s.engSlot)
        (withInput rest s))) := by
  have exists_word : ¬s.engWord.toNat ≥ Config.bufCap := Nat.not_le.2 word
  rw [step_of_agent_turn hin]
  simp [agentStep, engEmit, active, exists_word]

/-- ENG_ABORT of a pending request (R325). -/
theorem step_of_abort {s : State} {rest : List Turn} (hin : s.input = .agent .engAbort :: rest)
    (pending : s.abortReq = true) :
    step s = .next { stopEngine (withInput rest s) with abortReq := false } := by
  rw [step_of_agent_turn hin]
  simp [agentStep, engAbort, pending]

/-- Settles O44: one case for each way the engine moves on. -/
theorem engineStepsEmitAndAbort : Obligations.EngineStepsEmitAndAbort := by
  refine fun s rest => ⟨?_, step_of_abort⟩
  intro hin active word pair trace'
  have hstep : step s = .next (advance { s with trace := trace', input := rest }) :=
    step_of_emission hin active word
  rw [hstep]
  obtain ⟨slot, h⟩ | ⟨slot, word_left, h⟩ | ⟨slot, last, h⟩ :=
    advance_cases { s with trace := trace', input := rest } <;> rw [h]
  · have more_slots : s.engSlot.toNat < 15 := slot
    rw [if_pos more_slots]
  · have last_slot : ¬s.engSlot.toNat < 15 := Nat.not_lt.2 slot
    have more_words : s.engWord.toNat + 1 < s.nwords.toNat := word_left
    rw [if_neg last_slot, if_pos more_words]
  · have last_slot : ¬s.engSlot.toNat < 15 := Nat.not_lt.2 slot
    have last_word : ¬s.engWord.toNat + 1 < s.nwords.toNat := Nat.not_lt.2 last
    rw [if_neg last_slot, if_neg last_word]
    rfl

/-! ### Playing a whole buffer -/

/-- The number of the sample the engine emits next, counted from the first of its buffer. -/
def position (s : State) : Nat := 16 * s.engWord.toNat + s.engSlot.toNat

/-- Sample `i` of buffer `b`, in the order they are played (42_waveform_fill.md R269). -/
def sampleAt (m : Memory) (b : BitVec 2) (i : Nat) : BitVec 2 :=
  ((memRead m b (i / 16)) >>> (2 * (i % 16))).setWidth 2

theorem bufferSamples_eq (m : Memory) (b : BitVec 2) (n : Nat) :
    bufferSamples m b n = (List.range (16 * n)).map (sampleAt m b) := rfl

theorem slotPair_eq_sampleAt (s : State) :
    slotPair (memRead s.mem s.engBuf s.engWord.toNat) s.engSlot =
      sampleAt s.mem s.engBuf (position s) := by
  have slot := s.engSlot.isLt
  have hword : position s / 16 = s.engWord.toNat := by unfold position; omega
  have hslot : position s % 16 = s.engSlot.toNat := by unfold position; omega
  rw [sampleAt, hword, hslot, slotPair]

/-- Before the last sample the advance only moves the position on by one (R321, R323). -/
theorem advance_of_more {s : State} (more : position s + 1 < 16 * s.nwords.toNat) :
    ∃ w j, advance s = { s with engWord := w, engSlot := j } ∧
      16 * w.toNat + j.toNat = position s + 1 := by
  unfold position at *
  obtain ⟨slot, h⟩ | ⟨slot, -, h⟩ | ⟨slot, last, -⟩ := advance_cases s
  · exact ⟨s.engWord, s.engSlot + 1#4, h, by bv_omega⟩
  · exact ⟨s.engWord + 1#15, 0#4, h, by bv_omega⟩
  · omega

/-- After the last sample the buffer completes (R323). -/
theorem advance_of_last {s : State} (last : position s + 1 = 16 * s.nwords.toNat) :
    advance s = { stopEngine s with irqPend := true } := by
  unfold position at last
  obtain ⟨slot, -⟩ | ⟨slot, word_left, -⟩ | ⟨-, -, h⟩ := advance_cases s
  · omega
  · omega
  · exact h

/-- ENG_EMIT of an active engine within its buffer emits the sample at its position. -/
theorem step_of_sample {s : State} {rest : List Turn} (hin : s.input = .agent .engEmit :: rest)
    (active : s.engActive = true) (cap : s.nwords.toNat ≤ Config.bufCap)
    (inside : position s < 16 * s.nwords.toNat) :
    step s =
      .next (advance (emit (sampleAt s.mem s.engBuf (position s)) (withInput rest s))) := by
  have word : s.engWord.toNat < Config.bufCap := by unfold position at inside; omega
  rw [step_of_emission hin active word, slotPair_eq_sampleAt]

/-- The state once the `n` samples from the engine's position on have been emitted and the buffer
has completed. -/
def playedOut (n : Nat) (rest : List Turn) (s : State) : State :=
  { stopEngine s with
    irqPend := true
    trace := s.trace ++
      (List.range' (position s) n).map fun i =>
        ⟨sampleAt s.mem s.engBuf i, s.pinOwn, s.outsel⟩
    input := rest }

/-- The state after an emission that does not complete the buffer, the engine at word `w`, slot
`j`. -/
def emittedTo (w : BitVec 15) (j : BitVec 4) (rest : List Turn) (s : State) : State :=
  { s with
    engWord := w
    engSlot := j
    trace := s.trace ++ [⟨sampleAt s.mem s.engBuf (position s), s.pinOwn, s.outsel⟩]
    input := rest }

/-- Playing on after one emission plays out the buffer from before it. -/
theorem playedOut_emittedTo {s : State} {w : BitVec 15} {j : BitVec 4}
    (moved : 16 * w.toNat + j.toNat = position s + 1) (n : Nat) (rest rest' : List Turn) :
    playedOut n rest' (emittedTo w j rest s) = playedOut (n + 1) rest' s := by
  have at_next : position (emittedTo w j rest s) = position s + 1 := moved
  rw [playedOut, at_next]
  simp [playedOut, emittedTo, stopEngine, List.range'_succ]

theorem step_of_last_sample {s : State} {rest : List Turn}
    (hin : s.input = .agent .engEmit :: rest) (active : s.engActive = true)
    (cap : s.nwords.toNat ≤ Config.bufCap) (last : position s + 1 = 16 * s.nwords.toNat) :
    step s = .next (playedOut 1 rest s) := by
  have completes :=
    advance_of_last (s := emit (sampleAt s.mem s.engBuf (position s)) (withInput rest s)) last
  rw [step_of_sample hin active cap (by omega), completes]
  rfl

theorem step_of_earlier_sample {s : State} {rest : List Turn}
    (hin : s.input = .agent .engEmit :: rest) (active : s.engActive = true)
    (cap : s.nwords.toNat ≤ Config.bufCap) (more : position s + 1 < 16 * s.nwords.toNat) :
    ∃ w j, 16 * w.toNat + j.toNat = position s + 1 ∧ step s = .next (emittedTo w j rest s) := by
  obtain ⟨w, j, hadv, moved⟩ :=
    advance_of_more (s := emit (sampleAt s.mem s.engBuf (position s)) (withInput rest s)) more
  exact ⟨w, j, moved, by rw [step_of_sample hin active cap (by omega), hadv]; rfl⟩

theorem run_succ_of_step {s t : State} (h : step s = .next t) (k : Nat) :
    Host.Core.run core (k + 1) s = Host.Core.run core k t := by
  simp [Host.Core.run, core, h]

/-- An engine with `n + 1` samples of its buffer to come plays them all and completes. -/
theorem run_emissions (n : Nat) (rest : List Turn) :
    ∀ {s : State}, s.engActive = true → s.nwords.toNat ≤ Config.bufCap →
      position s + (n + 1) = 16 * s.nwords.toNat →
      s.input = List.replicate (n + 1) (.agent .engEmit) ++ rest →
      Host.Core.run core (n + 1) s = .next (playedOut (n + 1) rest s) := by
  induction n with
  | zero => exact fun active cap last hin =>
      run_succ_of_step (step_of_last_sample hin active cap last) 0
  | succ n ih =>
    intro s active cap more hin
    obtain ⟨w, j, moved, hstep⟩ := step_of_earlier_sample hin active cap (by omega)
    have still_more : 16 * w.toNat + j.toNat + (n + 1) = 16 * s.nwords.toNat := by omega
    rw [run_succ_of_step hstep, ← playedOut_emittedTo moved]
    exact ih (s := emittedTo w j _ s) active cap still_more rfl

/-- Settles O45: from word 0, slot 0 all `16 * NWORDS` samples are to come. -/
theorem enginePlaysTheWholeBuffer : Obligations.EnginePlaysTheWholeBuffer := by
  intro s rest active word slot some_word cap hin
  have start : position s = 0 := by simp [position, word, slot]
  obtain ⟨n, count⟩ : ∃ n, 16 * s.nwords.toNat = n + 1 := Nat.exists_eq_add_one.2 (by omega)
  rw [bufferSamples_eq, List.map_map, List.range_eq_range', word, slot]
  rw [count] at hin ⊢
  rw [run_emissions n rest active cap (by omega) hin, playedOut, start]
  rfl

end Sys2Proof.Machine
end

section
/-! PROOFS. The controller (44_controller.md R340 to R362): what sets and clears DIRTY, the commands
and the polls as whole next states, and the compute step, whose calculation fits the buffer. -/

namespace Sys2Proof.Machine

/-! ### DIRTY -/

theorem exec_of_isConfigWrite {i : Instr} (h : isConfigWrite i = true) (s : State) :
    ∃ legal written, exec i s = configWrite legal written s := by
  cases i with
  | wrFreq | wrMode | wrAmp | wrDither | wrHd3amp | wrHd3ph | wrMaxw | wrSeed => exact ⟨_, _, rfl⟩
  | _ => cases h

/-- A host operation sets DIRTY, as a configuration write, or leaves it alone (R340). -/
theorem hostEffect_dirty {i : Instr} {s t : State} (h : HostEffect s i t) :
    (isConfigWrite i = true ∧ t.dirty = true) ∨ t.dirty = s.dirty := by
  cases h with
  | writesFreq | writesMode | writesAmp | writesDither | writesHd3amp | writesHd3ph | writesMaxw
  | writesSeed => exact .inl ⟨rfl, rfl⟩
  | applies => rw [applyStart_frame]; exact .inr rfl
  | _ => exact .inr rfl

/-- Of the agents' steps only the compute step touches DIRTY (R358). -/
theorem agentEffect_dirty {a : AgentStep} {s t : State} (h : AgentEffect s a t) :
    t.dirty = s.dirty ∨ (a = .seqCompute ∧ s.seq = .computing) := by
  cases h with
  | computesDivider computing | computesBuffers computing => exact .inr ⟨rfl, computing⟩
  | emits => rw [advance_frame]; exact .inl rfl
  | choosesBuffer => rw [chooseBuffer_frame]; exact .inl rfl
  | _ => exact .inl rfl

/-- A step sets DIRTY, leaves it alone, or is the compute step. -/
theorem step_dirty {s t : State} (h : step s = .next t) :
    t.dirty = true ∨ t.dirty = s.dirty ∨
      (nextTurn s = some (.agent .seqCompute) ∧ s.seq = .computing) := by
  obtain rfl | ⟨_, _, -, he⟩ | ⟨_, _, hturn, he⟩ | ⟨-, _, rfl⟩ := step_effect h
  · exact .inr (.inl rfl)
  · obtain ⟨-, set⟩ | kept := hostEffect_dirty he
    · exact .inl set
    · exact .inr (.inl kept)
  · obtain kept | ⟨rfl, computing⟩ := agentEffect_dirty he
    · exact .inr (.inl kept)
    · exact .inr (.inr ⟨hturn, computing⟩)
  · exact .inl rfl

/-- Settles O24: the gate of the configuration writes, and the effects that touch DIRTY. -/
theorem dirtyFollowsConfigurationWrites : Obligations.DirtyFollowsConfigurationWrites := by
  refine ⟨fun i s t h => ⟨fun config => ?_, fun other => ?_⟩, fun s t h dirty clear => ?_⟩
  · obtain ⟨legal, written, hexec⟩ := exec_of_isConfigWrite config s
    obtain ⟨-, rfl⟩ | ⟨-, -, rfl⟩ | ⟨-, -, rfl⟩ := configWrite_cases (hexec ▸ h)
    · exact .inr (.inl rfl)
    · exact .inl rfl
    · exact .inr (.inr rfl)
  · obtain ⟨config, -⟩ | kept := hostEffect_dirty (exec_effect h)
    · exact absurd config (by simp [other])
    · exact kept
  · obtain set | kept | compute := step_dirty h
    · exact absurd set (by simp [clear])
    · exact absurd (kept.trans dirty) (by simp [clear])
    · exact compute

/-! ### Commands -/

/-- Settles O36: the gate is open, and each case of APPLY is one branch. -/
theorem applyStartsTheRightPhase : Obligations.ApplyStartsTheRightPhase := by
  intro s sound idle
  have open_gate : exec .cmdApply s = accept (applyStart s) := commandGate_of_idle sound idle _
  rw [open_gate, accept]
  obtain ⟨clean, h⟩ | ⟨dirty, armed, h⟩ | ⟨dirty, unarmed, h⟩ := applyStart_cases s <;> rw [h]
  · simp [clean, respond]
  · simp [dirty, armed, respond]
  · simp [dirty, unarmed, respond]

theorem commandGate_of_fatal {s : State} (fatal : s.fatal = true)
    (r : Host.Outcome State Fault Refusal) : commandGate r s = .next (rejectedWrite .fatal s) := by
  simp [commandGate, fatal, rejectWrite, rejectedWrite]

theorem commandGate_of_busy {s : State} (sound : s.fatal = false) (busy : s.seq ≠ .idle)
    (r : Host.Outcome State Fault Refusal) : commandGate r s = .next (rejectedWrite .busy s) := by
  simp [commandGate, sound, busy, rejectWrite, rejectedWrite]

/-- Settles O37: the three answers of the gate. -/
theorem restorePinsReleasesThePins : Obligations.RestorePinsReleasesThePins := fun s =>
  ⟨fun sound idle => commandGate_of_idle sound idle (accept (restorePins s)),
    fun fatal => commandGate_of_fatal fatal _, fun sound busy => commandGate_of_busy sound busy _⟩

/-! ### The halt poll -/

/-- A halt has the trigger off already, so FATAL entry need not clear it (10_state.md R68 (f)). -/
theorem enterFatal_of_unarmed {s : State} (unarmed : s.armed = false) :
    enterFatal s =
      record .abortTimeout
        { s with fatal := true, seq := .idle, outsel := .noProgram, pinOwn := false } := by
  simp [enterFatal, unarmed]

/-- The abort was honoured: the poll ends the halt (R346). -/
theorem seqPoll_of_honoured {s : State} (halting : s.seq = .halting)
    (stopped : s.engActive = false) (settled : s.abortReq = false) :
    seqPoll s = { s with seq := .computing, poll := 0 } :=
  (if_pos halting).trans (if_pos ⟨stopped, settled⟩)

/-- The abort is still to be honoured: the poll is unsuccessful (R347). -/
theorem seqPoll_of_running {s : State} (halting : s.seq = .halting)
    (running : s.engActive = true ∨ s.abortReq = true) : seqPoll s = pollAgain s := by
  have not_honoured : ¬(s.engActive = false ∧ s.abortReq = false) := by
    obtain active | pending := running
    · simp [active]
    · simp [pending]
  exact (if_pos halting).trans (if_neg not_honoured)

/-- Settles O39: an honoured poll, an unsuccessful one, and the last of the budget. -/
theorem haltPollOutcomes : Obligations.HaltPollOutcomes := by
  intro s rest hin halting unarmed
  rw [step_of_agent_turn hin, agentStep]
  refine ⟨fun stopped settled => congrArg _ ?_, fun running left => congrArg _ ?_,
    fun running exhausted => congrArg _ ?_⟩
  · exact seqPoll_of_honoured (s := withInput rest s) halting stopped settled
  · have counts := seqPoll_of_running (s := withInput rest s) halting running
    exact counts.trans (if_neg left)
  · have counts := seqPoll_of_running (s := withInput rest s) halting running
    exact counts.trans ((if_pos exhausted).trans (enterFatal_of_unarmed unarmed))

/-! ### The compute step in mode 0 -/

theorem step_of_compute_divider {s : State} {rest : List Turn}
    (hin : s.input = .agent .seqCompute :: rest) (computing : s.seq = .computing)
    (divider : s.mode = 0#3) : step s = .next (computeClockDivider (withInput rest s)) := by
  rw [step_of_agent_turn hin]
  simp [agentStep, seqCompute, computing, divider]

/-- In the ranges of CPU_HZ and FREQ the rounded divisor stays below its clamp, and one more than it
brings the frequency under `freq` (R351). -/
theorem rounded_divisor_bounds {cpuHz freq : Nat} (hcpu : cpuHz < 2 ^ 30)
    (hfreq : 6400000 ≤ freq) :
    (2 * 8192 * cpuHz + freq) / (2 * freq) < 0xFFFFFF ∧
      2 * 8192 * cpuHz < 2 * freq * ((2 * 8192 * cpuHz + freq) / (2 * freq) + 1) := by
  have pos : 0 < 2 * freq := by omega
  refine ⟨(Nat.div_lt_iff_lt_mul pos).2 (by omega), ?_⟩
  have := Nat.lt_mul_div_succ (2 * 8192 * cpuHz + freq) pos
  omega

theorem clockDivisor_lt (cpuHz freq : Nat) : clockDivisor cpuHz freq < 2 ^ 24 := by
  unfold clockDivisor
  omega

/-- The achieved frequency of mode 0 fits FEXACT (R352). -/
theorem clockFexact_lt {cpuHz freq : Nat} (hcpu : cpuHz < 2 ^ 30) (hfreq : 6400000 ≤ freq)
    (hmax : freq ≤ 1280000000) : clockFexact cpuHz (clockDivisor cpuHz freq) < 2 ^ 32 := by
  obtain ⟨unclamped, next_under⟩ := rounded_divisor_bounds hcpu hfreq
  unfold clockFexact clockDivisor
  generalize (2 * 8192 * cpuHz + freq) / (2 * freq) = rounded at unclamped next_under ⊢
  have := Nat.mul_le_mul_right (rounded + 1) (by omega : 2 * freq ≤ 2560000000)
  rw [Nat.div_lt_iff_lt_mul (by omega)]
  omega

/-- Settles O42: the registers are wide enough for what a legal FREQ gives. -/
theorem modeZeroComputeStep : Obligations.ModeZeroComputeStep := by
  intro s rest hin computing divider f rounded div
  refine ⟨_, _, step_of_compute_divider hin computing divider, fun legal => ?_⟩
  obtain ⟨hmin, hmax⟩ := legal.freq_legal
  have hcpu : Config.cpuHz < 2 ^ 30 := Nat.lt_succ_of_le Config.cpuHz_le
  exact ⟨toNat_ofNat_of_lt (clockDivisor_lt Config.cpuHz f),
    toNat_ofNat_of_lt (clockFexact_lt hcpu hmin hmax), (rounded_divisor_bounds hcpu hmin).1⟩

/-! ### The calculation -/

/-- The scaling leaves less than one solved denominator of the buffer unused (R354). -/
theorem calculate_words_gt (cpuHz freq maxw bufCap : Nat) :
    (bufCap : Int) - (solve freq (4 * cpuHz) (min maxw bufCap)).q <
      (calculate cpuHz bufCap freq maxw).words := by
  have den_pos := (solve_isRatio freq (4 * cpuHz) (min maxw bufCap)).den_pos
  unfold calculate
  generalize solve freq (4 * cpuHz) (min maxw bufCap) = r at den_pos ⊢
  have := Nat.lt_div_mul_add (a := bufCap) (by omega : 0 < r.q.toNat)
  dsimp only
  omega

/-- Scaling keeps the solved ratio (R354). -/
theorem calculate_ratio (cpuHz freq maxw bufCap : Nat) :
    let r := solve freq (4 * cpuHz) (min maxw bufCap)
    let c := calculate cpuHz bufCap freq maxw
    (c.periods : Int) * r.q = c.words * r.p := by
  have hr := solve_isRatio freq (4 * cpuHz) (min maxw bufCap)
  unfold calculate
  generalize solve freq (4 * cpuHz) (min maxw bufCap) = r at hr ⊢
  have num : (r.p.toNat : Int) = r.p := Int.toNat_of_nonneg hr.num_nonneg
  have den : (r.q.toNat : Int) = r.q := Int.toNat_of_nonneg (zero_le_one.trans hr.den_pos)
  dsimp only
  rw [Nat.cast_mul, Nat.cast_mul, num, den]
  ring

/-- Settles O51: the scaling of the solver's ratio, and the quotient FEXACT is. -/
theorem calculationFitsTheBuffer : Obligations.CalculationFitsTheBuffer := by
  intro cpuHz cap freq maxw _ hcap r c
  obtain ⟨pos, fits, periods_le, -⟩ := calculate_bounds cpuHz freq maxw (by omega : 1 ≤ cap)
  exact ⟨pos, fits, calculate_words_gt cpuHz freq maxw cap, periods_le,
    calculate_ratio cpuHz freq maxw cap, Nat.div_mul_le_self _ _,
    Nat.lt_mul_of_div_lt (Nat.lt_succ_self c.fexact) pos⟩

/-! ### The compute step in modes 1 to 5 -/

theorem step_of_compute_buffers {s : State} {rest : List Turn}
    (hin : s.input = .agent .seqCompute :: rest) (computing : s.seq = .computing)
    (streaming : s.mode ≠ 0#3) : step s = .next (computeBuffers (withInput rest s)) := by
  rw [step_of_agent_turn hin]
  simp [agentStep, seqCompute, computing, streaming]

theorem rearmBuffer_eq (o : OutputState) :
    rearmBuffer o = if o = .transmitting then 1#2 else 0#2 := by
  cases o <;> rfl

/-- Writing a whole buffer leaves every byte outside the buffers alone. -/
theorem readByte_writeWords_of_not_bufferByte {m : Memory} {b : BitVec 2} {vs : List Word} {a : Nat}
    (hlen : vs.length = Config.bufCap) (ha : ¬IsBufferByte a) :
    (m.writeWords (bufAddr b 0) vs).readByte a = m.readByte a := by
  refine Memory.readByte_writeWords_other vs ?_
  by_contra! inside
  obtain ⟨offset, rfl⟩ := Nat.exists_eq_add_of_le inside.1
  exact ha ⟨b, offset / 4, offset % 4, by omega, by omega, by unfold bufAddr; omega⟩

theorem readByte_publish_of_not_bufferByte {f : Buffers} {m : Memory} {a : Nat}
    (hlen : ∀ b, (Buffers.words f b).length = Config.bufCap) (ha : ¬IsBufferByte a) :
    (publish f m).readByte a = m.readByte a :=
  (readByte_writeWords_of_not_bufferByte (hlen 3#2) ha).trans <|
    (readByte_writeWords_of_not_bufferByte (hlen 2#2) ha).trans <|
      (readByte_writeWords_of_not_bufferByte (hlen 1#2) ha).trans <|
        readByte_writeWords_of_not_bufferByte (hlen 0#2) ha

/-- Settles O43: the memory is the published fill, and the re-arm follows STATE. -/
theorem computeStepPublishesTheFill : Obligations.ComputeStepPublishesTheFill := by
  intro s rest hin computing streaming hwf r m w p f
  refine ⟨(computeBuffers (withInput rest s)).mem, ?_,
    fun b k hk => memRead_computeBuffers (s := withInput rest s) hwf b hk,
    fun a ha => readByte_publish_of_not_bufferByte (filledBuffers_length (withInput rest s)) ha⟩
  rw [step_of_compute_buffers hin computing streaming, ← rearmBuffer_eq]
  rfl

end Sys2Proof.Machine
end

section
/-! PROOFS. The bus interface (45_bus_access.md R391 to R444): the host's answers as whole next
states, the views a read returns bit by bit, and the gates and checks in their order. -/

namespace Sys2Proof.Machine

/-! ### What an operation answers -/

theorem answer_eq (v : Word) (s : State) : answer v s = .next { s with rdata := some v } := rfl

theorem accept_eq (s : State) : accept s = .next { s with rdata := none } := rfl

theorem rejectRead_eq (c : ErrorCode) (s : State) : rejectRead c s = .next (rejectedRead c s) := rfl

theorem rejectWrite_eq (c : ErrorCode) (s : State) :
    rejectWrite c s = .next (rejectedWrite c s) := rfl

/-! ### Register reads -/

theorem zext_ofBool (b : Bool) : zext (BitVec.ofBool b) = if b then 1#32 else 0#32 := by
  cases b <;> rfl

/-- Settles O25: each read is an answer of its register, TXEN's extended from one bit. -/
theorem controlRegisterReadsReturn : Obligations.ControlRegisterReadsReturn := by
  intro s
  rw [← zext_ofBool]
  and_intros <;> exact answer_eq _ s

/-- Settles O26: each read is an answer of its register. -/
theorem resultRegisterReadsReturn : Obligations.ResultRegisterReadsReturn := by
  intro s
  and_intros <;> exact answer_eq _ s

/-! ### The views -/

theorem OutputState.bit_getLsbD_zero (o : OutputState) :
    o.bit.getLsbD 0 = decide (o = .transmitting) := by
  cases o <;> rfl

/-- The one-bit fields of STATUS stand where 10_state.md R23 puts them. -/
theorem statusView_bits (s : State) :
    (statusView s).getLsbD 0 = s.dirty ∧ (statusView s).getLsbD 1 = busy s ∧
      (statusView s).getLsbD 4 = s.outputState.bit.getLsbD 0 ∧ (statusView s).getLsbD 5 = s.ind ∧
      (statusView s).getLsbD 6 = s.engActive ∧ (statusView s).getLsbD 9 = s.armed ∧
      (statusView s).getLsbD 10 = s.abortReq ∧ (statusView s).getLsbD 11 = s.irqPend ∧
      (statusView s).getLsbD 12 = s.pinOwn ∧ (statusView s).getLsbD 15 = s.filled ∧
      (statusView s).getLsbD 16 = s.fatal ∧ (statusView s).getLsbD 17 = s.errValid ∧
      (statusView s).getLsbD 18 = s.txen := by
  simp only [statusView, BitVec.getLsbD_append]
  simp

/-- The wider fields of STATUS stand where 10_state.md R23 puts them, zeros above them. -/
theorem statusView_fields (s : State) :
    (statusView s).extractLsb' 2 2 = s.seq.bits ∧ (statusView s).extractLsb' 7 2 = s.engBuf ∧
      (statusView s).extractLsb' 13 2 = s.outsel.bits ∧
      (statusView s).extractLsb' 19 13 = 0#13 := by
  unfold statusView
  refine ⟨?_, ?_, ?_, ?_⟩ <;>
    simp (disch := decide) only [BitVec.extractLsb'_append_eq_of_le,
      BitVec.extractLsb'_append_eq_of_add_le, BitVec.extractLsb'_eq_self, Nat.reduceSub]

theorem errView_bits (s : State) :
    (errView s).getLsbD 30 = s.errOvf ∧ (errView s).getLsbD 31 = s.errValid := by
  simp only [errView, BitVec.getLsbD_append]
  simp

theorem errView_fields (s : State) :
    (errView s).extractLsb' 0 4 = s.errCode ∧ (errView s).extractLsb' 4 26 = 0#26 := by
  unfold errView
  refine ⟨?_, ?_⟩ <;>
    simp (disch := decide) only [BitVec.extractLsb'_append_eq_of_le,
      BitVec.extractLsb'_append_eq_of_add_le, BitVec.extractLsb'_eq_self, Nat.reduceSub]

/-- Settles O27: the fields of the two views, and the parameters' ranges, which fit 32 bits. -/
theorem statusErrorAndParameterReadsReturn : Obligations.StatusErrorAndParameterReadsReturn := by
  intro s
  obtain ⟨dirty, busy, state, ind, active, armed, abort, irq, own, filled, fatal, valid, txen⟩ :=
    statusView_bits s
  obtain ⟨seq, buf, outsel, zeros⟩ := statusView_fields s
  obtain ⟨code, zeros'⟩ := errView_fields s
  refine ⟨⟨statusView s, answer_eq _ s, dirty, ?_, ?_, ?_, ?_, ?_, ind, active, buf, armed, abort,
      irq, own, ?_, ?_, ?_, filled, fatal, valid, txen, zeros⟩,
    ⟨errView s, answer_eq _ s, code, zeros', errView_bits s⟩,
    ⟨_, answer_eq _ s, toNat_ofNat_of_lt ?_, Config.two_le_bufCap, Config.bufCap_le⟩,
    ⟨_, answer_eq _ s, toNat_ofNat_of_lt ?_, Config.cpuHz_ge, Config.cpuHz_le⟩⟩
  · rw [busy]
    cases h : s.seq <;> simp [Machine.busy, h]
  · exact fun h => by rw [seq, h]; rfl
  · exact fun h => by rw [seq, h]; rfl
  · exact fun h => by rw [seq, h]; rfl
  · exact state.trans (OutputState.bit_getLsbD_zero _)
  · exact fun h => by rw [outsel, h]; rfl
  · exact fun h => by rw [outsel, h]; rfl
  · exact fun h => by rw [outsel, h]; rfl
  · exact Config.bufCap_le.trans_lt (by decide)
  · exact Config.cpuHz_le.trans_lt (by decide)

/-! ### Buffer accesses -/

theorem bufferRead_eq (b : BitVec 2) (w : BitVec 14) (s : State) :
    bufferRead b w s =
      .next
        (if w.toNat ≥ Config.bufCap then rejectedRead .badAddr s
        else if s.seq ≠ .idle then rejectedRead .busy s
        else if s.filled = false then rejectedRead .notFilled s
        else { s with rdata := some (memRead s.mem b w.toNat) }) := by
  simp only [bufferRead, rejectRead_eq, answer_eq, ← apply_ite]

theorem bufferWrite_eq (w : BitVec 14) (s : State) :
    bufferWrite w s =
      .next (if w.toNat ≥ Config.bufCap then rejectedWrite .badAddr s
        else rejectedWrite .readonly s) := by
  simp only [bufferWrite, rejectWrite_eq, ← apply_ite]

/-- The four buffer numbers (20_memory.md R86). -/
theorem buffer_cases (b : BitVec 2) : b = 0#2 ∨ b = 1#2 ∨ b = 2#2 ∨ b = 3#2 := by
  decide +revert

theorem exec_bufferReadOp (b : BitVec 2) (w : BitVec 14) (s : State) :
    exec (bufferReadOp b w) s = bufferRead b w s := by
  obtain rfl | rfl | rfl | rfl := buffer_cases b <;> rfl

theorem exec_bufferWriteOp (b : BitVec 2) (w : BitVec 14) (s : State) :
    exec (bufferWriteOp b w) s = bufferWrite w s := by
  obtain rfl | rfl | rfl | rfl := buffer_cases b <;> rfl

/-- Byte `k` of a word in memory is the byte at its address plus `k` (20_memory.md R81). -/
theorem Memory.extractLsb'_readWord (m : Memory) (a : Nat) {k : Nat} (hk : k < 4) :
    (m.readWord a).extractLsb' (8 * k) 8 = m.readByte (a + k) := by
  unfold Memory.readWord
  interval_cases k <;>
    simp (disch := decide) only [BitVec.extractLsb'_append_eq_of_le,
      BitVec.extractLsb'_append_eq_of_add_le, BitVec.extractLsb'_eq_self, Nat.reduceMul,
      Nat.reduceSub, Nat.add_zero]

/-- Settles O28: the chain of checks of R444, and the word's bytes at its bus address. -/
theorem bufferReadsFollowTheirChecks : Obligations.BufferReadsFollowTheirChecks := by
  intro b w s
  rw [exec_bufferReadOp, bufferRead_eq]
  refine ⟨rfl, fun present idle filled => ⟨memRead s.mem b w.toNat, ?_, fun k hk =>
    s.mem.extractLsb'_readWord (bufAddr b w.toNat) hk⟩⟩
  simp [present, idle, filled]

/-! ### Register writes -/

theorem store_eq_extractLsb' {n : Nat} (hn : n ≤ 32) (v : Word) : store n v = v.extractLsb' 0 n :=
  BitVec.setWidth_eq_extractLsb' hn

theorem execWrErr_eq (v : Word) (s : State) :
    execWrErr v s =
      .next
        (if v.getLsbD 31 then
          { s with errCode := 0#4, errOvf := false, errValid := false, rdata := none }
        else { s with rdata := none }) := by
  simp only [execWrErr, accept_eq, ← apply_ite]

/-- Settles O29: none of the four writes has a gate. -/
theorem controlWritesTakeEffect : Obligations.ControlWritesTakeEffect := by
  intro v s
  rw [← store_eq_extractLsb' (by decide) v]
  exact ⟨execWrErr_eq v s, accept_eq _, accept_eq _, accept_eq _⟩

/-- In IDLE the gate of R442 leaves the range check. -/
theorem configWrite_of_idle {s : State} (idle : s.seq = .idle) (legal : Bool) (written : State) :
    configWrite legal written s =
      .next (if legal then { written with dirty := true, rdata := none }
        else rejectedWrite .range s) := by
  simp only [configWrite, idle, ne_eq, not_true_eq_false, if_false, accept_eq, rejectWrite_eq,
    ← apply_ite]

theorem configWrite_of_busy {s : State} (busy : s.seq ≠ .idle) (legal : Bool) (written : State) :
    configWrite legal written s = .next (rejectedWrite .busy s) :=
  if_pos busy

/-- The range check in IDLE, for a legality stated as a proposition. -/
theorem configWrite_of_idle_iff {s : State} (idle : s.seq = .idle) {legal : Bool} {p : Prop}
    [Decidable p] (hp : legal = true ↔ p) (written : State) :
    configWrite legal written s =
      .next (if p then { written with dirty := true, rdata := none }
        else rejectedWrite .range s) := by
  rw [configWrite_of_idle idle]
  exact congrArg _ (if_congr hp rfl rfl)

/-- Settles O30: the range check of each register is its legality. -/
theorem configurationWritesCheckTheirRange : Obligations.ConfigurationWritesCheckTheirRange := by
  intro v s idle
  refine ⟨configWrite_of_idle_iff idle ?_ _, configWrite_of_idle_iff idle ?_ _,
    configWrite_of_idle_iff idle ?_ _, configWrite_of_idle_iff idle ?_ _,
    configWrite_of_idle_iff idle ?_ _, configWrite_of_idle idle true _,
    configWrite_of_idle_iff idle ?_ _, configWrite_of_idle_iff idle ?_ _⟩
  · simp [legalFreq]
  · simp [legalMode]
  · simp [legalAmp]
  · simp [legalDither]
  · simp [legalHd3amp]
  · simp [legalMaxw]
  · simp [legalSeed]

/-- Settles O31: both gates, whatever they would admit. -/
theorem gateRejectsBusyAndFatal : Obligations.GateRejectsBusyAndFatal := by
  refine fun i s => ⟨fun config busy => ?_, ?_⟩
  · obtain ⟨legal, written, hexec⟩ := exec_of_isConfigWrite config s
    rw [hexec, configWrite_of_busy busy]
  · rintro (rfl | rfl | rfl | ⟨v, rfl⟩) <;>
      exact ⟨fun fatal => commandGate_of_fatal fatal _,
        fun sound busy => commandGate_of_busy sound busy _⟩

theorem execWrSolvTden_eq (v : Word) (s : State) :
    execWrSolvTden v s =
      .next (if v ≠ 0#32 then { s with solvTden := v, rdata := none }
        else rejectedWrite .range s) := by
  simp only [execWrSolvTden, legalTden, bne_iff_ne, accept_eq, rejectWrite_eq, ← apply_ite]

/-- Settles O32: only a zero denominator is refused, and no write has a gate. -/
theorem solverRegisterWritesTakeEffect : Obligations.SolverRegisterWritesTakeEffect := fun v s =>
  ⟨accept_eq _, execWrSolvTden_eq v s, accept_eq _⟩

/-! ### Rejections -/

/-- Settles O33: every such write is the one rejection, a buffer's after the index check. -/
theorem readOnlyWritesAreRejected : Obligations.ReadOnlyWritesAreRejected := by
  refine fun s => ⟨?_, fun b w => by rw [exec_bufferWriteOp, bufferWrite_eq]⟩
  intro i hi
  fin_cases hi <;> exact rejectWrite_eq _ s

theorem commandGate_eq (t s : State) :
    commandGate (.next t) s =
      .next (if s.fatal = true then rejectedWrite .fatal s
        else if s.seq ≠ .idle then rejectedWrite .busy s
        else t) := by
  simp only [commandGate, rejectWrite_eq, ← apply_ite]

/-- Settles O34: the gate and then BAD_CMD, and the two rejections by their WE bit. -/
theorem catchAllOperationsAreRejected : Obligations.CatchAllOperationsAreRejected :=
  fun s _ _ _ => ⟨commandGate_eq (rejectedWrite .badCmd s) s, rejectWrite_eq _ s,
    rejectRead_eq _ s, rejectWrite_eq _ s, rejectRead_eq _ s⟩

end Sys2Proof.Machine
end

section
/-! PROOFS. Nothing stops the block (60_exceptions.md R450): an error is a recorded next state
(R452), and the engine port, the one access that could leave the buffers, stays inside them
(20_memory.md R84). The interrupt line and the pins, case by case (R457; 43_output_fsm.md R322 to
R328). -/

namespace Sys2Proof.Machine

/-! ### Recording an error -/

/-- The first error sets CODE and VALID. -/
theorem record_of_clear {s : State} (clear : s.errValid = false) (c : ErrorCode) :
    record c s = { s with errCode := c.bits, errValid := true, intstat := s.intstat ||| 1#4 } := by
  simp [record, clear, Event.mask]

/-- A further error leaves CODE and VALID alone and sets OVF. -/
theorem record_of_valid {s : State} (valid : s.errValid = true) (c : ErrorCode) :
    record c s = { s with errOvf := true, intstat := s.intstat ||| 1#4 } := by
  simp [record, valid, Event.mask]

theorem record_eq (c : ErrorCode) (s : State) :
    record c s =
      if s.errValid = false then
        { s with errCode := c.bits, errValid := true, intstat := s.intstat ||| 1#4 }
      else { s with errOvf := true, intstat := s.intstat ||| 1#4 } := by
  split
  · next clear => exact record_of_clear clear c
  · next valid => exact record_of_valid (Bool.eq_true_of_not_eq_false valid) c

/-- Settles O35: the two cases of `record`; the codes' numbers are the model's table. -/
theorem recordKeepsTheFirstError : Obligations.RecordKeepsTheFirstError :=
  ⟨fun c s => ⟨record_eq c s, rfl, rfl⟩, rfl, rfl, rfl, rfl, rfl, rfl, rfl, rfl, rfl⟩

/-! ### The interrupt line and the pins -/

/-- The line is high when an event is both latched and enabled (60_exceptions.md R457). -/
theorem irq_iff (s : State) :
    irq s = true ↔ ∃ i, i < 4 ∧ s.intstat.getLsbD i = true ∧ s.inten.getLsbD i = true := by
  rw [irq, bne_iff_ne, ne_eq, BitVec.eq_of_getLsbD_eq_iff]
  simp

/-- The serializer's pins: low while the engine is idle (43_output_fsm.md R322, R326). -/
theorem pins_of_serial {s : State} (owned : s.pinOwn = true) (serial : s.outsel = .serial) :
    s.pins = if s.engActive then .streaming else .level false false := by
  simp [State.pins, owned, serial]

theorem pins_of_clkdiv {s : State} (owned : s.pinOwn = true) (divider : s.outsel = .clkdiv) :
    s.pins = .clockDivider s.clkdiv := by
  simp [State.pins, owned, divider]

theorem pins_of_noProgram {s : State} (owned : s.pinOwn = true)
    (unloaded : s.outsel = .noProgram) : s.pins = .noProgram := by
  simp [State.pins, owned, unloaded]

theorem pins_of_released {s : State} (released : s.pinOwn = false) : s.pins = .released := by
  simp [State.pins, released]

theorem TraceRec.pins_of_serial {r : TraceRec} (owned : r.pinOwn = true)
    (serial : r.outsel = .serial) : r.pins = some (r.pair.getLsbD 0, r.pair.getLsbD 1) := by
  simp [TraceRec.pins, owned, serial]

theorem TraceRec.pins_of_not_serial {r : TraceRec} (h : r.pinOwn = false ∨ r.outsel ≠ .serial) :
    r.pins = none := by
  obtain released | other := h
  · simp [TraceRec.pins, released]
  · simp [TraceRec.pins, other]

/-- Settles O47: the line bit by bit, and the pins by their owner and their program. -/
theorem interruptLineAndPins : Obligations.InterruptLineAndPins := by
  refine fun s => ⟨irq_iff s, fun owned serial idle => ?_, fun owned serial active => ?_,
    pins_of_clkdiv, pins_of_noProgram, pins_of_released, rfl,
    fun r => ⟨TraceRec.pins_of_serial, TraceRec.pins_of_not_serial⟩⟩
  · simp [pins_of_serial owned serial, idle]
  · simp [pins_of_serial owned serial, active]

/-! ### No step stops -/

theorem configWrite_answers (legal : Bool) (written s : State) :
    ∃ t, configWrite legal written s = .next t := by
  by_cases idle : s.seq = .idle
  · exact ⟨_, configWrite_of_idle idle legal written⟩
  · exact ⟨_, configWrite_of_busy idle legal written⟩

theorem rejectAccess_answers (we : Bool) (c : ErrorCode) (s : State) :
    ∃ t, rejectAccess we c s = .next t := by
  cases we with
  | false => exact ⟨_, rejectRead_eq c s⟩
  | true => exact ⟨_, rejectWrite_eq c s⟩

/-- Every host operation ends in a next state, a rejected one included (60_exceptions.md R450). -/
theorem exec_answers (i : Instr) (s : State) : ∃ t, exec i s = .next t := by
  cases i with
  | rdId | rdStatus | rdErr | rdCmd | rdTxen | rdInten | rdIntstat | rdFreq | rdMode | rdAmp
  | rdDither | rdHd3amp | rdHd3ph | rdMaxw | rdSeed | rdNwords | rdNperiods | rdFexact | rdClkdiv
  | rdApproxIter | rdSolvTnum | rdSolvTden | rdSolvQmax | rdSolvP | rdSolvQ | rdSolvIter
  | rdParamCap | rdParamCpu => exact ⟨_, answer_eq _ s⟩
  | wrRoId | wrRoStatus | wrRoNwords | wrRoNperiods | wrRoFexact | wrRoClkdiv | wrRoApproxIter
  | wrRoSolvP | wrRoSolvQ | wrRoSolvIter | wrRoParamCap | wrRoParamCpu =>
    exact ⟨_, rejectWrite_eq _ s⟩
  | rdBufSilent w | rdBufSteady w | rdBufRampup w | rdBufRampdown w =>
    exact ⟨_, bufferRead_eq _ w s⟩
  | wrRoBufSilent w | wrRoBufSteady w | wrRoBufRampup w | wrRoBufRampdown w =>
    exact ⟨_, bufferWrite_eq w s⟩
  | wrFreq | wrMode | wrAmp | wrDither | wrHd3amp | wrHd3ph | wrMaxw | wrSeed =>
    exact configWrite_answers _ _ s
  | cmdApply | cmdRestorePins | cmdSolve | cmdReserved => exact ⟨_, commandGate_eq _ s⟩
  | wrTxen | wrInten | wrIntstat | wrSolvTnum | wrSolvQmax => exact ⟨_, accept_eq _⟩
  | wrErr v => exact ⟨_, execWrErr_eq v s⟩
  | wrSolvTden v => exact ⟨_, execWrSolvTden_eq v s⟩
  | misaligned we | unmapped we => exact rejectAccess_answers we _ s

/-- An active engine plays a word of a buffer (10_state.md R68 (d), (e); 20_memory.md R84). -/
theorem ControlInv.engine_word_exists {s : State} (hs : ControlInv s)
    (active : s.engActive = true) : s.engWord.toNat < Config.bufCap :=
  (hs.active_word_played active).trans_le hs.periods_words_capacity.2

/-- The engine port finds its word whenever the engine is active. -/
theorem engEmit_answers {s : State} (hs : ControlInv s) : ∃ t, engEmit s = .next t := by
  unfold engEmit
  split
  · exact ⟨s, rfl⟩
  · next active =>
    have word := hs.engine_word_exists (Bool.eq_true_of_not_eq_false active)
    exact ⟨_, if_neg (Nat.not_le.2 word)⟩

theorem agentStep_answers {s : State} (hs : ControlInv s) (a : AgentStep) :
    ∃ t, agentStep a s = .next t := by
  cases a with
  | engEmit => exact engEmit_answers hs
  | engAbort | fsmStep | seqPoll | seqCompute => exact ⟨_, rfl⟩

/-- Settles O10: host operations and resets never stop, and ENG_EMIT finds its word. -/
theorem stepNeverStops : Obligations.StepNeverStops := by
  intro s hs
  match hin : s.input with
  | [] => exact ⟨s, step_of_no_turn hin⟩
  | .host tw :: rest => exact step_of_host_turn hin ▸ exec_answers (decodeTw tw) (withInput rest s)
  | .agent a :: rest =>
    exact step_of_agent_turn hin ▸ agentStep_answers (s := withInput rest s) { hs with } a
  | .reset :: rest => exact ⟨_, step_of_reset_turn hin⟩

end Sys2Proof.Machine
end

section
/-! PROOFS. Reset and the abort budget (70_reset_and_hazards.md R490, R504). The values and the
invariants of the reset state, and a run of unsuccessful polls, by induction on the polls left. -/

namespace Sys2Proof.Machine

/-! ### The reset state -/

/-- Settles O17: each field is written out in `State.reset`. -/
theorem resetHoldsStatedValues : Obligations.ResetHoldsStatedValues := by
  unfold Obligations.ResetHoldsStatedValues
  and_intros <;> rfl

/-- Settles O12: the base cases of the step lemmas; the keying rule asks nothing of an idle
engine. -/
theorem resetMeetsEveryInvariant : Obligations.ResetMeetsEveryInvariant :=
  ⟨reset_controlInv, (nomatch ·), reset_registerInv, reset_bufferInv⟩

/-! ### The abort budget -/

/-- FATAL entry once the whole budget has been polled away. -/
def timedOut (rest : List Turn) (s : State) : State :=
  enterFatal { s with poll := Config.abortPollMax, input := rest }

/-- A poll turn while the abort is pending is an unsuccessful one (R347). -/
theorem step_of_unsuccessful_poll {s : State} {rest : List Turn}
    (hin : s.input = .agent .seqPoll :: rest) (halting : s.seq = .halting)
    (pending : s.abortReq = true) : step s = .next (pollAgain (withInput rest s)) := by
  rw [step_of_agent_turn hin]
  exact congrArg _ (seqPoll_of_running (s := withInput rest s) halting (.inr pending))

theorem step_of_last_poll {s : State} {rest : List Turn}
    (hin : s.input = .agent .seqPoll :: rest) (halting : s.seq = .halting)
    (pending : s.abortReq = true) (last : s.poll + 1 = Config.abortPollMax) :
    step s = .next (timedOut rest s) := by
  rw [step_of_unsuccessful_poll hin halting pending, timedOut, ← last]
  exact congrArg _ (if_pos last)

theorem step_of_earlier_poll {s : State} {rest : List Turn}
    (hin : s.input = .agent .seqPoll :: rest) (halting : s.seq = .halting)
    (pending : s.abortReq = true) (left : s.poll + 1 ≠ Config.abortPollMax) :
    step s = .next { s with poll := s.poll + 1, input := rest } := by
  rw [step_of_unsuccessful_poll hin halting pending]
  exact congrArg _ (if_neg left)

/-- A pending abort with `n + 1` polls of the budget left times out after `n + 1` polls in a
row (R347, R348). -/
theorem run_unsuccessful_polls (n : Nat) (rest : List Turn) :
    ∀ {s : State}, s.seq = .halting → s.abortReq = true →
      s.poll + (n + 1) = Config.abortPollMax →
      s.input = List.replicate (n + 1) (.agent .seqPoll) ++ rest →
      Host.Core.run core (n + 1) s = .next (timedOut rest s) := by
  induction n with
  | zero => exact fun halting pending last hin =>
      run_succ_of_step (step_of_last_poll hin halting pending last) 0
  | succ n ih =>
    intro s halting pending budget hin
    have left : s.poll + 1 ≠ Config.abortPollMax := by omega
    have budget_left : s.poll + 1 + (n + 1) = Config.abortPollMax := by omega
    rw [run_succ_of_step (step_of_earlier_poll hin halting pending left)]
    exact ih (s := { s with poll := s.poll + 1, input := _ }) halting pending budget_left rfl

/-- Settles O40: from POLL = 0 the whole budget is left. -/
theorem abortBudgetEndsInFatal : Obligations.AbortBudgetEndsInFatal := by
  intro s rest halting pending start hin
  have budget : s.poll + (Config.abortPollChoice + 1) = Config.abortPollMax := by
    rw [start, Nat.zero_add, Config.abortPollMax]
  refine ⟨timedOut rest s, run_unsuccessful_polls _ rest halting pending budget hin, rfl, rfl, rfl,
    rfl, rfl, pending, rfl, rfl, rfl, fun clear => ?_, ?_, rfl⟩
  · simp [timedOut, clear]
  · simp [timedOut]

end Sys2Proof.Machine
end

section
/-! PROOFS. What the buffers hold before the first fill is never observed
(70_reset_and_hazards.md R491). A run and the same run over other buffer contents stay in step: a
buffer word is read only once FILLED is set, and the fill that sets it writes every word. -/

namespace Sys2Proof.Machine

/-! ### Other buffer contents -/

/-- The state with other buffer contents. -/
def withMem (m : Memory) (s : State) : State := { s with mem := m }

theorem equalButBuffers_withMem (m : Memory) (s : State) : EqualButBuffers (withMem m s) s := rfl

/-- `m` holds what the buffers of `s` hold, as far as anything may look: after a fill. -/
structure BuffersAgree (s : State) (m : Memory) : Prop where
  canonical : s.mem.wf = true
  canonical_other : m.wf = true
  same_words : s.filled = true →
    ∀ (b : BitVec 2) (w : Nat), w < Config.bufCap → memRead m b w = memRead s.mem b w

theorem BuffersAgree.of_same {s t : State} {m : Memory} (h : BuffersAgree s m)
    (mem : t.mem = s.mem) (filled : t.filled = s.filled) : BuffersAgree t m where
  canonical := by rw [mem]; exact h.canonical
  canonical_other := h.canonical_other
  same_words := by rw [mem, filled]; exact h.same_words

/-! ### Host operations -/

/-- Over the contents `m` the operation answers the same next state, but for the buffers, which
it leaves alone. -/
def IgnoresBuffers (m : Memory) (s : State)
    (f : State → Host.Outcome State Fault Refusal) : Prop :=
  ∃ t, f s = .next t ∧ f (withMem m s) = .next (withMem m t)

namespace IgnoresBuffers

variable {m : Memory} {s : State}

/-- The buffer read (45_bus_access.md R444) looks at a word only when FILLED is set. -/
theorem bufferRead (agree : BuffersAgree s m) (b : BitVec 2) (w : BitVec 14) :
    IgnoresBuffers m s (bufferRead b w) := by
  refine ⟨_, bufferRead_eq b w s, (bufferRead_eq b w (withMem m s)).trans (congrArg _ ?_)⟩
  simp only [apply_ite (withMem m)]
  refine ite_congr rfl (fun _ => rfl) fun present => ite_congr rfl (fun _ => rfl) fun _ =>
    ite_congr rfl (fun _ => rfl) fun filled => ?_
  have word := agree.same_words (Bool.eq_true_of_not_eq_false filled) b w.toNat
    (Nat.lt_of_not_le present)
  simp [withMem, word]

theorem bufferWrite (w : BitVec 14) : IgnoresBuffers m s (bufferWrite w) := by
  refine ⟨_, bufferWrite_eq w s, (bufferWrite_eq w (withMem m s)).trans (congrArg _ ?_)⟩
  rw [apply_ite (withMem m)]
  rfl

theorem rejectAccess (we : Bool) (c : ErrorCode) : IgnoresBuffers m s (rejectAccess we c) := by
  cases we with
  | false => exact ⟨_, rfl, rfl⟩
  | true => exact ⟨_, rfl, rfl⟩

theorem configWrite (legal : Bool) {written : State → State}
    (h : written (withMem m s) = withMem m (written s)) :
    IgnoresBuffers m s fun s => configWrite legal (written s) s := by
  by_cases idle : s.seq = .idle
  · refine ⟨_, configWrite_of_idle idle _ _,
      (configWrite_of_idle (s := withMem m s) idle _ _).trans (congrArg _ ?_)⟩
    rw [apply_ite (withMem m), h]
    rfl
  · exact ⟨_, configWrite_of_busy idle _ _, configWrite_of_busy (s := withMem m s) idle _ _⟩

theorem commandGate {f : State → Host.Outcome State Fault Refusal} (h : IgnoresBuffers m s f) :
    IgnoresBuffers m s fun s => commandGate (f s) s := by
  obtain ⟨t, ht, hm⟩ := h
  refine ⟨_, (congrArg (Machine.commandGate · s) ht).trans (commandGate_eq t s),
    (congrArg (Machine.commandGate · (withMem m s)) hm).trans
      ((commandGate_eq (withMem m t) (withMem m s)).trans (congrArg _ ?_))⟩
  simp only [apply_ite (withMem m)]
  rfl

theorem execWrErr (v : Word) : IgnoresBuffers m s (execWrErr v) := by
  refine ⟨_, execWrErr_eq v s, (execWrErr_eq v (withMem m s)).trans (congrArg _ ?_)⟩
  rw [apply_ite (withMem m)]
  rfl

theorem execWrSolvTden (v : Word) : IgnoresBuffers m s (execWrSolvTden v) := by
  refine ⟨_, execWrSolvTden_eq v s, (execWrSolvTden_eq v (withMem m s)).trans (congrArg _ ?_)⟩
  rw [apply_ite (withMem m)]
  rfl

end IgnoresBuffers

theorem applyStart_withMem (m : Memory) (s : State) :
    applyStart (withMem m s) = withMem m (applyStart s) := by
  simp only [applyStart, apply_ite (withMem m)]
  rfl

/-- Of the host operations only the buffer reads look at the buffers. -/
theorem exec_ignoresBuffers {m : Memory} {s : State} (agree : BuffersAgree s m) (i : Instr) :
    IgnoresBuffers m s (exec i) := by
  cases i with
  | rdBufSilent w | rdBufSteady w | rdBufRampup w | rdBufRampdown w => exact .bufferRead agree _ w
  | wrRoBufSilent w | wrRoBufSteady w | wrRoBufRampup w | wrRoBufRampdown w =>
    exact .bufferWrite w
  | wrFreq | wrMode | wrAmp | wrDither | wrHd3amp | wrHd3ph | wrMaxw | wrSeed =>
    exact .configWrite _ rfl
  | cmdApply => exact .commandGate ⟨_, rfl, congrArg accept (applyStart_withMem m s)⟩
  | cmdRestorePins | cmdSolve | cmdReserved => exact .commandGate ⟨_, rfl, rfl⟩
  | wrErr v => exact .execWrErr v
  | wrSolvTden v => exact .execWrSolvTden v
  | misaligned we | unmapped we => exact .rejectAccess we _
  | _ => exact ⟨_, rfl, rfl⟩

/-! ### Agents -/

theorem advance_withMem (m : Memory) (s : State) :
    advance (withMem m s) = withMem m (advance s) := by
  simp only [advance, apply_ite (withMem m)]
  rfl

theorem engAbort_withMem (m : Memory) (s : State) :
    engAbort (withMem m s) = withMem m (engAbort s) := by
  simp only [engAbort, apply_ite (withMem m)]
  rfl

theorem chooseBuffer_withMem (m : Memory) (s : State) :
    chooseBuffer (withMem m s) = withMem m (chooseBuffer s) := by
  obtain ⟨tx, st, h⟩ | ⟨tx, st, h⟩ | ⟨tx, st, h⟩ | ⟨tx, st, h⟩ := chooseBuffer_cases s <;>
  · rw [h, chooseBuffer, show (withMem m s).txen = _ from tx,
      show (withMem m s).outputState = _ from st]
    rfl

theorem fsmStep_withMem (m : Memory) (s : State) :
    fsmStep (withMem m s) = withMem m (fsmStep s) := by
  simp only [fsmStep, apply_ite (withMem m), ← chooseBuffer_withMem]
  rfl

theorem seqPoll_withMem (m : Memory) (s : State) :
    seqPoll (withMem m s) = withMem m (seqPoll s) := by
  simp only [seqPoll, pollAgain, apply_ite (withMem m)]
  rfl

/-- An active engine within the buffers emits the sample at its position (43_output_fsm.md R321). -/
theorem engEmit_of_active {s : State} (active : s.engActive = true)
    (word : s.engWord.toNat < Config.bufCap) :
    engEmit s =
      .next (advance (emit (slotPair (memRead s.mem s.engBuf s.engWord.toNat) s.engSlot) s)) := by
  simp [engEmit, active, Nat.not_le.2 word]

/-! ### The engine plays filled buffers -/

/-- The control invariants, and that the engine plays only buffers that a fill has written. -/
structure PlayingInv (s : State) : Prop where
  control : ControlInv s
  active_filled : s.engActive = true → s.filled = true

theorem PlayingInv.withInput {s : State} (hs : PlayingInv s) (turns : List Turn) :
    PlayingInv (withInput turns s) :=
  ⟨{ hs.control with }, hs.active_filled⟩

theorem hostEffect_playingInv {i : Instr} {s t : State} (h : HostEffect s i t)
    (hs : PlayingInv s) : PlayingInv t := by
  have same := hostEffect_sameOutputSide h
  refine ⟨hostEffect_controlInv h hs.control, ?_⟩
  rw [same.engActive, same.filled]
  exact hs.active_filled

/-- The engine is started by the FSM, whose trigger is armed after a fill, or by the fill itself
(10_state.md R68 (b), 44_controller.md R357). -/
theorem agentEffect_playingInv {a : AgentStep} {s t : State} (h : AgentEffect s a t)
    (hs : PlayingInv s) : PlayingInv t := by
  refine ⟨agentEffect_controlInv h hs.control, ?_⟩
  cases h with
  | emits active => rw [advance_frame]; exact fun _ => hs.active_filled active
  | aborts => exact fun idle => nomatch idle
  | choosesBuffer _ armed =>
    obtain ⟨filled, -⟩ := hs.control.armed_ready armed
    rw [chooseBuffer_frame]
    exact fun _ => filled
  | computesBuffers => exact fun _ => rfl
  | _ => exact hs.active_filled

theorem reset_playingInv : PlayingInv State.reset := ⟨reset_controlInv, (nomatch ·)⟩

theorem step_playingInv {s t : State} (hs : PlayingInv s) (h : step s = .next t) : PlayingInv t :=
  step_preserves (fun turns hs => hs.withInput turns) hostEffect_playingInv agentEffect_playingInv
    reset_playingInv hs h

/-! ### The two runs in step -/

/-- Over the contents `m` as over its own, `s` goes on to the same next state but for the buffers,
which agree again. -/
def StaysInStep (m : Memory) (s : State) (f : State → Host.Outcome State Fault Refusal) : Prop :=
  ∃ t m', f s = .next t ∧ f (withMem m s) = .next (withMem m' t) ∧ BuffersAgree t m'

/-- What ignores the buffers and leaves FILLED alone stays in step. -/
theorem IgnoresBuffers.staysInStep {m : Memory} {s : State}
    {f : State → Host.Outcome State Fault Refusal} (h : IgnoresBuffers m s f)
    (agree : BuffersAgree s m)
    (keeps : ∀ {t}, f s = .next t → t.mem = s.mem ∧ t.filled = s.filled) : StaysInStep m s f := by
  obtain ⟨t, ht, hm⟩ := h
  obtain ⟨mem, filled⟩ := keeps ht
  exact ⟨t, m, ht, hm, agree.of_same mem filled⟩

/-- Only the compute step touches the buffers and FILLED (20_memory.md R90). -/
theorem agentEffect_keeps_buffers {a : AgentStep} {s t : State} (ha : a ≠ .seqCompute)
    (h : AgentEffect s a t) : t.mem = s.mem ∧ t.filled = s.filled := by
  cases h with
  | emits => rw [advance_frame]; exact ⟨rfl, rfl⟩
  | choosesBuffer => rw [chooseBuffer_frame]; exact ⟨rfl, rfl⟩
  | computesDivider | computesBuffers => exact absurd rfl ha
  | _ => exact ⟨rfl, rfl⟩

section

variable {m : Memory} {s : State}

theorem exec_staysInStep (agree : BuffersAgree s m) (i : Instr) : StaysInStep m s (exec i) :=
  (exec_ignoresBuffers agree i).staysInStep agree fun h =>
    have same := hostEffect_sameOutputSide (exec_effect h)
    ⟨same.mem, same.filled⟩

/-- An active engine emits a sample that a fill has written (20_memory.md R84). -/
theorem engEmit_ignoresBuffers (hs : PlayingInv s) (agree : BuffersAgree s m) :
    IgnoresBuffers m s engEmit := by
  cases active : s.engActive with
  | false => exact ⟨s, if_pos active, if_pos active⟩
  | true =>
    have word := hs.control.engine_word_exists active
    have same_word := agree.same_words (hs.active_filled active) s.engBuf s.engWord.toNat word
    refine ⟨_, engEmit_of_active active word,
      (engEmit_of_active (s := withMem m s) active word).trans (congrArg _ ?_)⟩
    rw [← advance_withMem, ← same_word]
    rfl

/-- The fill writes every word of the buffers, whatever they held (44_controller.md R355). -/
theorem computeBuffers_buffersAgree (agree : BuffersAgree s m) :
    BuffersAgree (computeBuffers s) (publish (filledBuffers s) m) where
  canonical := publish_wf _ agree.canonical
  canonical_other := publish_wf _ agree.canonical_other
  same_words := fun _ b w hw => by
    rw [memRead_computeBuffers agree.canonical b hw]
    exact memRead_publish agree.canonical_other Config.bufCap_le (filledBuffers_length s) b hw

/-- The compute step reads registers only. -/
theorem seqCompute_staysInStep (agree : BuffersAgree s m) :
    StaysInStep m s (agentStep .seqCompute) := by
  obtain ⟨waiting, h⟩ | ⟨computing, divider, h⟩ | ⟨computing, streaming, h⟩ := seqCompute_cases s
  · exact ⟨s, m, congrArg _ h, congrArg _ (if_neg waiting), agree⟩
  · exact ⟨computeClockDivider s, m, congrArg _ h,
      congrArg _ ((if_pos computing).trans (if_pos divider)), agree.of_same rfl rfl⟩
  · exact ⟨computeBuffers s, publish (filledBuffers s) m, congrArg _ h,
      congrArg _ ((if_pos computing).trans (if_neg streaming)), computeBuffers_buffersAgree agree⟩

theorem agentStep_staysInStep (hs : PlayingInv s) (agree : BuffersAgree s m) (a : AgentStep) :
    StaysInStep m s (agentStep a) := by
  have of_ignores : a ≠ .seqCompute → IgnoresBuffers m s (agentStep a) →
      StaysInStep m s (agentStep a) := fun ha h =>
    h.staysInStep agree fun ht => agentEffect_keeps_buffers ha (agentStep_effect ht)
  cases a with
  | engEmit => exact of_ignores (nomatch ·) (engEmit_ignoresBuffers hs agree)
  | engAbort => exact of_ignores (nomatch ·) ⟨_, rfl, congrArg _ (engAbort_withMem m s)⟩
  | fsmStep => exact of_ignores (nomatch ·) ⟨_, rfl, congrArg _ (fsmStep_withMem m s)⟩
  | seqPoll => exact of_ignores (nomatch ·) ⟨_, rfl, congrArg _ (seqPoll_withMem m s)⟩
  | seqCompute => exact seqCompute_staysInStep agree

theorem step_staysInStep (hs : PlayingInv s) (agree : BuffersAgree s m) :
    StaysInStep m s step := by
  match hin : s.input with
  | [] => exact ⟨s, m, step_of_no_turn hin, step_of_no_turn (s := withMem m s) hin, agree⟩
  | .host tw :: rest =>
    obtain ⟨t, m', ht, hm, agree'⟩ :=
      exec_staysInStep (s := withInput rest s) (agree.of_same rfl rfl) (decodeTw tw)
    exact ⟨t, m', (step_of_host_turn hin).trans ht,
      (step_of_host_turn (s := withMem m s) hin).trans hm, agree'⟩
  | .agent a :: rest =>
    obtain ⟨t, m', ht, hm, agree'⟩ :=
      agentStep_staysInStep (hs.withInput rest) (agree.of_same rfl rfl) a
    exact ⟨t, m', (step_of_agent_turn hin).trans ht,
      (step_of_agent_turn (s := withMem m s) hin).trans hm, agree'⟩
  | .reset :: rest =>
    exact ⟨_, _, step_of_reset_turn hin, step_of_reset_turn (s := withMem m s) hin,
      reset_mem_wf, reset_mem_wf, fun _ _ _ _ => rfl⟩

end

/-- Two runs that differ only in unread buffer contents have next states at every length, and
these differ only in the buffers. -/
theorem run_staysInStep (n : Nat) : ∀ {m : Memory} {s : State}, PlayingInv s → BuffersAgree s m →
    StaysInStep m s (Host.Core.run core n) := by
  induction n with
  | zero => exact fun {m s} _ agree => ⟨s, m, rfl, rfl, agree⟩
  | succ n ih =>
    intro m s hs agree
    obtain ⟨t, m', ht, hm, agree'⟩ := step_staysInStep hs agree
    obtain ⟨u, m'', hu, hm', agree''⟩ := ih (step_playingInv hs ht) agree'
    exact ⟨u, m'', (run_succ_of_step ht n).trans hu, (run_succ_of_step hm n).trans hm', agree''⟩

/-- Settles O60: after reset FILLED is clear, so any canonical contents agree. -/
theorem unspecifiedBufferContentIsNeverObserved :
    Obligations.UnspecifiedBufferContentIsNeverObserved := by
  intro m turns n hwf
  have agree : BuffersAgree (withInput turns State.reset) m :=
    ⟨reset_mem_wf, hwf, fun filled => nomatch filled⟩
  obtain ⟨t, m', ht, hm, -⟩ := run_staysInStep n (reset_playingInv.withInput turns) agree
  exact ⟨withMem m' t, t, hm, ht, equalButBuffers_withMem m' t⟩

end Sys2Proof.Machine
end
